-- ==== Sys2Proof/Word.lean ====
section
/-! DEFINITION. The word types of MBCORE: the widths the spec names (rules R8, R10 to R18, R47). -/

namespace Sys2Proof

/-- A byte: 8 bits, bit 0 least significant (rule R8). -/
abbrev Byte := BitVec 8

/-- A 16-bit unsigned value: PRESSURE (rule R18) and the pair of CRC registers (rule R17). -/
abbrev Word16 := BitVec 16

/-- The input word the environment applies in one clock cycle (rule R47). -/
abbrev InputWord := BitVec 12

end Sys2Proof
end

