-- ==== Sys2Proof/Config.lean ====
section
/-! DEFINITION. The implementation parameters of rule R5 with this hardware's values, the OPEN parameters,
and the free values of the model (constants without a body: no proof can see what they are). -/

namespace Sys2Proof.Config

/-- SLAVE_ADDR (rule R5): expected RXBUF[0]. -/
def slaveAddr : Byte := 0x01#8

/-- FUNC_CODE (rule R5): expected RXBUF[1]. -/
def funcCode : Byte := 0x03#8

/-- BYTE_COUNT (rule R5): expected RXBUF[2]. -/
def byteCount : Byte := 0x02#8

/-- REQ_LEN (rule R5): bytes in the request frame. -/
def reqLen : Nat := 8

/-- RESP_LEN (rule R5): bytes in the expected response frame. -/
def respLen : Nat := 7

/-- RXBUF_LEN (rule R5): bytes in the receive buffer. -/
abbrev rxbufLen : Nat := 9

/-- POLL_THRESHOLD (rule R5): the poll counter fires when the incremented count exceeds this. -/
def pollThreshold : Nat := 100

/-- RTO_CAP (rule R5): the receive timeout counter stops at this value. -/
def rtoCap : Nat := 100

/-- RTO_LIMIT (rule R5): the wait ends when the timeout counter is at least this. -/
def rtoLimit : Nat := 10

/-- READY_EXCEED (rule R5): the wait ends when the receive count exceeds this. -/
def readyExceed : Nat := 7

/-- DECODE_MIN_COUNT (rules R5, R113; 90_conflicts.md C2): the validator runs only at this count or above. -/
def decodeMinCount : Nat := 7

/-- CRC_LEN (rule R5): number of leading buffer bytes the validator's CRC covers. -/
def crcLen : Nat := 5

/-- CRC_INIT_HI (rule R5). -/
def crcInitHi : Byte := 0xFF#8

/-- CRC_INIT_LO (rule R5). -/
def crcInitLo : Byte := 0xFF#8

/-- CRC_POLY (rule R5): the reflected generator polynomial. -/
def crcPoly : Word16 := 0xA001#16

/-- W_PTC (rule R5): width of the poll tick counter. -/
abbrev wPtc : Nat := 7

/-- W_RTO (rule R5): width of the receive timeout counter. -/
abbrev wRto : Nat := 7

/-- W_COUNT (rule R5): width of the receive count. -/
abbrev wCount : Nat := 4

/-- W_Q (rule R5): width of the code of the sequencer state. -/
abbrev wQ : Nat := 5

/-- The code of the digit 0 on the display port; the code of digit d is this plus d (rule R58).
PRESUMED: the spec marks the character set as general knowledge (log 11). -/
def digitZero : Byte := 0x30#8

/-- TICK_PERIOD (rule R5), nominal, in microseconds: a duty of the environment; no rule reads it. -/
def tickPeriodMicros : Nat := 1000

/-- DISP_ROW (rules R5, R122), OPEN: no source gives it and no rule reads it (log 10). -/
opaque dispRow : Nat

/-- DISP_COL (rules R5, R122), OPEN: no source gives it and no rule reads it (log 10). -/
opaque dispCol : Nat

/-- CLK_PERIOD (rules R5, R171), OPEN: no rule reads it (log 10). -/
opaque clkPeriod : Nat

/-- What a byte of RXBUF that nothing has written reads as: any value (rules R14, R31;
93_implementation_defined.md U1). A free value for each index, chosen once for a run (log 3). -/
opaque unwrittenByte : Nat → Byte

/-- The input word the environment applies when the model was given none: any word (rule R26: the input
stream belongs to the environment). A free value for each value of the model's counter (log 2). -/
opaque envInput : Nat → InputWord

end Sys2Proof.Config
end

