-- ==== Sys2Proof/Machine/Crc.lean ====
section
/-! DEFINITION. The CRC16 engine (40_crc16.md): the table generator, the two tables as printed, CRC_BYTE in its
table form (the hardware) and in its bit-serial form, CRC16, and the constant request frame. -/

namespace Sys2Proof.Machine

/-- One shift-and-conditional-xor step of rules R66 and R71. -/
def polyShift (c : Word16) : Word16 :=
  if c.getLsbD 0 then (c >>> 1) ^^^ Config.crcPoly else c >>> 1

/-- `n` such steps. -/
def polyShifts : Nat → Word16 → Word16
  | 0, c => c
  | n + 1, c => polyShifts n (polyShift c)

/-- The table generator TGEN (rule R66). -/
def tgen (i : Byte) : Word16 := polyShifts 8 (i.setWidth 16)

/-- The 16 printed rows of TAB_LO (rule R67). -/
def tabLoRows : List (List Nat) :=
  [[0x00, 0xC1, 0x81, 0x40, 0x01, 0xC0, 0x80, 0x41, 0x01, 0xC0, 0x80, 0x41, 0x00, 0xC1, 0x81, 0x40],
   [0x01, 0xC0, 0x80, 0x41, 0x00, 0xC1, 0x81, 0x40, 0x00, 0xC1, 0x81, 0x40, 0x01, 0xC0, 0x80, 0x41],
   [0x01, 0xC0, 0x80, 0x41, 0x00, 0xC1, 0x81, 0x40, 0x00, 0xC1, 0x81, 0x40, 0x01, 0xC0, 0x80, 0x41],
   [0x00, 0xC1, 0x81, 0x40, 0x01, 0xC0, 0x80, 0x41, 0x01, 0xC0, 0x80, 0x41, 0x00, 0xC1, 0x81, 0x40],
   [0x01, 0xC0, 0x80, 0x41, 0x00, 0xC1, 0x81, 0x40, 0x00, 0xC1, 0x81, 0x40, 0x01, 0xC0, 0x80, 0x41],
   [0x00, 0xC1, 0x81, 0x40, 0x01, 0xC0, 0x80, 0x41, 0x01, 0xC0, 0x80, 0x41, 0x00, 0xC1, 0x81, 0x40],
   [0x00, 0xC1, 0x81, 0x40, 0x01, 0xC0, 0x80, 0x41, 0x01, 0xC0, 0x80, 0x41, 0x00, 0xC1, 0x81, 0x40],
   [0x01, 0xC0, 0x80, 0x41, 0x00, 0xC1, 0x81, 0x40, 0x00, 0xC1, 0x81, 0x40, 0x01, 0xC0, 0x80, 0x41],
   [0x01, 0xC0, 0x80, 0x41, 0x00, 0xC1, 0x81, 0x40, 0x00, 0xC1, 0x81, 0x40, 0x01, 0xC0, 0x80, 0x41],
   [0x00, 0xC1, 0x81, 0x40, 0x01, 0xC0, 0x80, 0x41, 0x01, 0xC0, 0x80, 0x41, 0x00, 0xC1, 0x81, 0x40],
   [0x00, 0xC1, 0x81, 0x40, 0x01, 0xC0, 0x80, 0x41, 0x01, 0xC0, 0x80, 0x41, 0x00, 0xC1, 0x81, 0x40],
   [0x01, 0xC0, 0x80, 0x41, 0x00, 0xC1, 0x81, 0x40, 0x00, 0xC1, 0x81, 0x40, 0x01, 0xC0, 0x80, 0x41],
   [0x00, 0xC1, 0x81, 0x40, 0x01, 0xC0, 0x80, 0x41, 0x01, 0xC0, 0x80, 0x41, 0x00, 0xC1, 0x81, 0x40],
   [0x01, 0xC0, 0x80, 0x41, 0x00, 0xC1, 0x81, 0x40, 0x00, 0xC1, 0x81, 0x40, 0x01, 0xC0, 0x80, 0x41],
   [0x01, 0xC0, 0x80, 0x41, 0x00, 0xC1, 0x81, 0x40, 0x00, 0xC1, 0x81, 0x40, 0x01, 0xC0, 0x80, 0x41],
   [0x00, 0xC1, 0x81, 0x40, 0x01, 0xC0, 0x80, 0x41, 0x01, 0xC0, 0x80, 0x41, 0x00, 0xC1, 0x81, 0x40]]

/-- The 16 printed rows of TAB_HI (rule R68). -/
def tabHiRows : List (List Nat) :=
  [[0x00, 0xC0, 0xC1, 0x01, 0xC3, 0x03, 0x02, 0xC2, 0xC6, 0x06, 0x07, 0xC7, 0x05, 0xC5, 0xC4, 0x04],
   [0xCC, 0x0C, 0x0D, 0xCD, 0x0F, 0xCF, 0xCE, 0x0E, 0x0A, 0xCA, 0xCB, 0x0B, 0xC9, 0x09, 0x08, 0xC8],
   [0xD8, 0x18, 0x19, 0xD9, 0x1B, 0xDB, 0xDA, 0x1A, 0x1E, 0xDE, 0xDF, 0x1F, 0xDD, 0x1D, 0x1C, 0xDC],
   [0x14, 0xD4, 0xD5, 0x15, 0xD7, 0x17, 0x16, 0xD6, 0xD2, 0x12, 0x13, 0xD3, 0x11, 0xD1, 0xD0, 0x10],
   [0xF0, 0x30, 0x31, 0xF1, 0x33, 0xF3, 0xF2, 0x32, 0x36, 0xF6, 0xF7, 0x37, 0xF5, 0x35, 0x34, 0xF4],
   [0x3C, 0xFC, 0xFD, 0x3D, 0xFF, 0x3F, 0x3E, 0xFE, 0xFA, 0x3A, 0x3B, 0xFB, 0x39, 0xF9, 0xF8, 0x38],
   [0x28, 0xE8, 0xE9, 0x29, 0xEB, 0x2B, 0x2A, 0xEA, 0xEE, 0x2E, 0x2F, 0xEF, 0x2D, 0xED, 0xEC, 0x2C],
   [0xE4, 0x24, 0x25, 0xE5, 0x27, 0xE7, 0xE6, 0x26, 0x22, 0xE2, 0xE3, 0x23, 0xE1, 0x21, 0x20, 0xE0],
   [0xA0, 0x60, 0x61, 0xA1, 0x63, 0xA3, 0xA2, 0x62, 0x66, 0xA6, 0xA7, 0x67, 0xA5, 0x65, 0x64, 0xA4],
   [0x6C, 0xAC, 0xAD, 0x6D, 0xAF, 0x6F, 0x6E, 0xAE, 0xAA, 0x6A, 0x6B, 0xAB, 0x69, 0xA9, 0xA8, 0x68],
   [0x78, 0xB8, 0xB9, 0x79, 0xBB, 0x7B, 0x7A, 0xBA, 0xBE, 0x7E, 0x7F, 0xBF, 0x7D, 0xBD, 0xBC, 0x7C],
   [0xB4, 0x74, 0x75, 0xB5, 0x77, 0xB7, 0xB6, 0x76, 0x72, 0xB2, 0xB3, 0x73, 0xB1, 0x71, 0x70, 0xB0],
   [0x50, 0x90, 0x91, 0x51, 0x93, 0x53, 0x52, 0x92, 0x96, 0x56, 0x57, 0x97, 0x55, 0x95, 0x94, 0x54],
   [0x9C, 0x5C, 0x5D, 0x9D, 0x5F, 0x9F, 0x9E, 0x5E, 0x5A, 0x9A, 0x9B, 0x5B, 0x99, 0x59, 0x58, 0x98],
   [0x88, 0x48, 0x49, 0x89, 0x4B, 0x8B, 0x8A, 0x4A, 0x4E, 0x8E, 0x8F, 0x4F, 0x8D, 0x4D, 0x4C, 0x8C],
   [0x44, 0x84, 0x85, 0x45, 0x87, 0x47, 0x46, 0x86, 0x82, 0x42, 0x43, 0x83, 0x41, 0x81, 0x80, 0x40]]

/-- The entry of a printed table: row label plus column label is the index (rules R67, R68). -/
def tableEntry (rows : List (List Nat)) (i : Byte) : Byte :=
  BitVec.ofNat 8 ((rows.getD (i.toNat / 16) []).getD (i.toNat % 16) 0)

/-- TAB_LO[i], the table for the low byte contribution (rules R35, R67). -/
def tabLo (i : Byte) : Byte := tableEntry tabLoRows i

/-- TAB_HI[i], the table for the high byte contribution (rules R35, R68). -/
def tabHi (i : Byte) : Byte := tableEntry tabHiRows i

/-- The pair of running bytes CRC_HI, CRC_LO (rule R17). -/
structure CrcPair where
  /-- CRC_HI. -/
  hi : Byte
  /-- CRC_LO. -/
  lo : Byte
  deriving DecidableEq, Repr

/-- The 16-bit value hi * 256 + lo of two bytes (rules R17, R36, R49). -/
def joinBytes (hi lo : Byte) : Word16 := (hi.setWidth 16 <<< 8) ||| lo.setWidth 16

/-- The 16-bit value of the running pair (rule R72). -/
def CrcPair.value (p : CrcPair) : Word16 := joinBytes p.hi p.lo

/-- CRC_INIT (rule R70). -/
def crcInit : CrcPair := { hi := Config.crcInitHi, lo := Config.crcInitLo }

/-- CRC_BYTE(b), the table form (rule R69): both reads use one index, both writes use the old values. -/
def crcByte (p : CrcPair) (b : Byte) : CrcPair :=
  let idx := p.lo ^^^ b
  { hi := tabHi idx, lo := p.hi ^^^ tabLo idx }

/-- CRC_BYTE(b) applied to a sequence, first byte first (rule R72). -/
def crcBytes (p : CrcPair) (bs : List Byte) : CrcPair := bs.foldl crcByte p

/-- CRC16 (rule R72): CRC_INIT, then CRC_BYTE for each byte; nothing is done at the end. -/
def crc16 (bs : List Byte) : Word16 := (crcBytes crcInit bs).value

/-- CRC16z (rule R76 (a)): the same function started from CRC_HI = CRC_LO = 0x00. -/
def crc16z (bs : List Byte) : Word16 := (crcBytes { hi := 0, lo := 0 } bs).value

/-- CRC_BYTE(b) without tables (rule R71), on the 16-bit value. -/
def crcByteSerial (c : Word16) (b : Byte) : Word16 := polyShifts 8 (c ^^^ b.setWidth 16)

/-- REQ[0..7], the request frame (rules R34, R46), byte 0 first. -/
def requestBytes : List Byte :=
  [Config.slaveAddr, Config.funcCode, 0x00#8, 0x00#8, 0x00#8, 0x01#8, 0x84#8, 0x0A#8]

/-- REQ[i] (rules R30, R34); the table has the eight indices 0 to 7 and no rule forms another. -/
def reqByte (i : Fin 8) : Byte := requestBytes.getD i.val 0x00#8

/-- The seven bytes of an expected response in arrival order (rule R48): three constants, then the four fields. -/
def responseBytes (dataHi dataLo crcLo crcHi : Byte) : List Byte :=
  [Config.slaveAddr, Config.funcCode, Config.byteCount, dataHi, dataLo, crcLo, crcHi]

/-- The leading bytes a response's checksum covers (rules R48, R119). -/
def responseHead (dataHi dataLo : Byte) : List Byte :=
  [Config.slaveAddr, Config.funcCode, Config.byteCount, dataHi, dataLo]

end Sys2Proof.Machine
end

