-- ==== Sys2Proof/Syntax.lean ====
section
/-! DEFINITION. The instructions: one constructor for each of the 26 rows of spec/opcode_table.json
(rules R6, R45, R57). Operands are already fields, never raw encodings; ignored fields (rule R51) are not operands. -/

namespace Sys2Proof

/-- The rows of the opcode table. -/
inductive Instr where
  /-- RST (rule R137). -/
  | rst
  /-- NOP (rule R133). -/
  | nop (txReady : Bool)
  /-- TICK (rule R134). -/
  | tick (txReady : Bool)
  /-- RX (rule R135). -/
  | rx (txReady : Bool) (data : Byte)
  /-- TICKRX (rule R136). -/
  | tickrx (txReady : Bool) (data : Byte)
  /-- IDLE (rule R84). -/
  | idle
  /-- TX0 (rule R85). -/
  | tx0
  /-- TX1 (rule R85). -/
  | tx1
  /-- TX2 (rule R85). -/
  | tx2
  /-- TX3 (rule R85). -/
  | tx3
  /-- TX4 (rule R85). -/
  | tx4
  /-- TX5 (rule R85). -/
  | tx5
  /-- TX6 (rule R85). -/
  | tx6
  /-- TX7 (rule R85). -/
  | tx7
  /-- TXEND (rule R87). -/
  | txend
  /-- WAIT (rule R100). -/
  | wait
  /-- GATE (rule R111). -/
  | gate
  /-- CRC0 (rule R114). -/
  | crc0
  /-- CRC1 (rule R114). -/
  | crc1
  /-- CRC2 (rule R114). -/
  | crc2
  /-- CRC3 (rule R114). -/
  | crc3
  /-- CRC4 (rule R114). -/
  | crc4
  /-- CMP (rule R118). -/
  | cmp
  /-- CLR (rule R120). -/
  | clr
  /-- REQUEST_FRAME (rule R46): all 64 bits are constant. -/
  | requestFrame
  /-- RESPONSE_FRAME (rule R48): three constant bytes and four fields. -/
  | responseFrame (dataHi dataLo crcLo crcHi : Byte)
  deriving DecidableEq, Repr

end Sys2Proof
end

