-- ==== Sys2Proof/Decode.lean ====
section
/-! DEFINITION. Decoding and encoding (30_encoding.md): the fields of the input word, the codes of Q, the two frames,
the 26 rows of the opcode table, and the encoder. -/

namespace Sys2Proof

/-- The rst field, bit 11 (rule R47). -/
def inputRst (w : InputWord) : Bool := w.getLsbD 11

/-- The tick field, bit 10 (rule R47). -/
def inputTick (w : InputWord) : Bool := w.getLsbD 10

/-- The rx_valid field, bit 9 (rule R47). -/
def inputRxValid (w : InputWord) : Bool := w.getLsbD 9

/-- The tx_ready field, bit 8 (rule R47). -/
def inputTxReady (w : InputWord) : Bool := w.getLsbD 8

/-- The rx_data field, bits 7:0 (rule R47). -/
def inputRxData (w : InputWord) : Byte := w.setWidth 8

/-- The input word with the given fields (rule R47). -/
def makeInput (rst tick rxValid txReady : Bool) (rxData : Byte) : InputWord :=
  (if rst then 0x800#12 else 0#12) ||| (if tick then 0x400#12 else 0#12) |||
    (if rxValid then 0x200#12 else 0#12) ||| (if txReady then 0x100#12 else 0#12) ||| rxData.setWidth 12

/-- The words of the table, one form for each of its formats (rules R45, R57). -/
inductive TableWord where
  /-- Format `input_word`. -/
  | input (w : InputWord)
  /-- Format `q_state`. -/
  | seqCode (c : BitVec Config.wQ)
  /-- Format `frame`, the request: 64 bits, byte 0 leftmost (rule R46). -/
  | request (f : BitVec 64)
  /-- Format `frame`, the response: 56 bits, byte 0 leftmost (rule R48). -/
  | response (f : BitVec 56)
  deriving DecidableEq, Repr

/-- Why a word is rejected. -/
inductive DecodeError where
  /-- A 5-bit code 19 to 31 names no state (rule R53). -/
  | codeNamesNoState
  /-- The 64 bits are not the constant request frame (rule R46). -/
  | notTheRequestFrame
  /-- The first three bytes are not those of the expected response frame (rule R48). -/
  | notAResponseFrame
  deriving DecidableEq, Repr

/-- The operation an input word selects by bits 11:9 (rule R50); total, every word is legal (rule R54).
Ignored fields are dropped (rule R51). -/
def decodeInput (w : InputWord) : Instr :=
  if inputRst w then .rst
  else if inputTick w then
    if inputRxValid w then .tickrx (inputTxReady w) (inputRxData w) else .tick (inputTxReady w)
  else
    if inputRxValid w then .rx (inputTxReady w) (inputRxData w) else .nop (inputTxReady w)

/-- The micro-operations in the order of their codes 0 to 18 (rule R52). -/
def microOps : List Instr :=
  [.idle, .tx0, .tx1, .tx2, .tx3, .tx4, .tx5, .tx6, .tx7, .txend, .wait, .gate,
   .crc0, .crc1, .crc2, .crc3, .crc4, .cmp, .clr]

/-- The micro-operation a 5-bit code of Q selects (rules R52, R53). -/
def decodeSeqCode (c : BitVec Config.wQ) : Except DecodeError Instr :=
  match microOps[c.toNat]? with
  | some i => .ok i
  | none => .error .codeNamesNoState

/-- The request frame as one 64-bit number, byte 0 leftmost (rule R46). -/
def requestBits : BitVec 64 := 0x010300000001840A#64

/-- A 64-bit frame (rule R46): only the constant one is the request frame. -/
def decodeRequest (f : BitVec 64) : Except DecodeError Instr :=
  if f = requestBits then .ok .requestFrame else .error .notTheRequestFrame

/-- Seven bytes as one 56-bit number, byte 0 leftmost (rule R48). -/
def makeResponse (b0 b1 b2 b3 b4 b5 b6 : Byte) : BitVec 56 :=
  (b0.setWidth 56 <<< 48) ||| (b1.setWidth 56 <<< 40) ||| (b2.setWidth 56 <<< 32) ||| (b3.setWidth 56 <<< 24) |||
    (b4.setWidth 56 <<< 16) ||| (b5.setWidth 56 <<< 8) ||| b6.setWidth 56

/-- A 56-bit frame (rule R48): the three constant bytes, then dataHi, dataLo, crcLo, crcHi. -/
def decodeResponse (f : BitVec 56) : Except DecodeError Instr :=
  if f.extractLsb' 48 8 = Config.slaveAddr ∧ f.extractLsb' 40 8 = Config.funcCode ∧
      f.extractLsb' 32 8 = Config.byteCount then
    .ok (.responseFrame (f.extractLsb' 24 8) (f.extractLsb' 16 8) (f.extractLsb' 8 8) (f.extractLsb' 0 8))
  else .error .notAResponseFrame

/-- The decoder: total, rejecting by name. -/
def decode : TableWord → Except DecodeError Instr
  | .input w => .ok (decodeInput w)
  | .seqCode c => decodeSeqCode c
  | .request f => decodeRequest f
  | .response f => decodeResponse f

/-- The table word that a number of `nbits` bits stands for. The number of whole bytes tells the format: 1 a code of Q,
2 an input word, 7 a response frame, 8 the request frame; bits above the row's width are dropped (log 8). -/
def tableWord (nbits w : Nat) : Option TableWord :=
  let bytes := (nbits + 7) / 8
  if bytes = (Config.wQ + 7) / 8 then some (.seqCode (BitVec.ofNat Config.wQ w))
  else if bytes = 2 then some (.input (BitVec.ofNat 12 w))
  else if bytes = Config.respLen then some (.response (BitVec.ofNat 56 w))
  else if bytes = Config.reqLen then some (.request (BitVec.ofNat 64 w))
  else none

/-- The instruction the decoder reads from a row's bits, numbered as spec/opcode_table.json numbers them (log 7). -/
def decodeTableWord (nbits w : Nat) : Option Instr :=
  match tableWord nbits w with
  | some t =>
    match decode t with
    | .ok i => some i
    | .error _ => none
  | none => none

/-- The encoder (rules R46, R48, R50, R52). Ignored fields are encoded as 0 (rule R60). -/
def encode : Instr → TableWord
  | .rst => .input (makeInput true false false false 0x00#8)
  | .nop r => .input (makeInput false false false r 0x00#8)
  | .tick r => .input (makeInput false true false r 0x00#8)
  | .rx r d => .input (makeInput false false true r d)
  | .tickrx r d => .input (makeInput false true true r d)
  | .idle => .seqCode 0b00000#5
  | .tx0 => .seqCode 0b00001#5
  | .tx1 => .seqCode 0b00010#5
  | .tx2 => .seqCode 0b00011#5
  | .tx3 => .seqCode 0b00100#5
  | .tx4 => .seqCode 0b00101#5
  | .tx5 => .seqCode 0b00110#5
  | .tx6 => .seqCode 0b00111#5
  | .tx7 => .seqCode 0b01000#5
  | .txend => .seqCode 0b01001#5
  | .wait => .seqCode 0b01010#5
  | .gate => .seqCode 0b01011#5
  | .crc0 => .seqCode 0b01100#5
  | .crc1 => .seqCode 0b01101#5
  | .crc2 => .seqCode 0b01110#5
  | .crc3 => .seqCode 0b01111#5
  | .crc4 => .seqCode 0b10000#5
  | .cmp => .seqCode 0b10001#5
  | .clr => .seqCode 0b10010#5
  | .requestFrame => .request requestBits
  | .responseFrame h l c d =>
      .response (makeResponse Config.slaveAddr Config.funcCode Config.byteCount h l c d)

/-- One row of the opcode table: its width, its mask and its match (rule R57). -/
structure Row where
  /-- Width in bits. -/
  width : Nat
  /-- The mask of the fixed bits. -/
  mask : Nat
  /-- The values of the fixed bits. -/
  bits : Nat
  deriving DecidableEq, Repr

/-- The row of spec/opcode_table.json an instruction belongs to. -/
def Instr.row : Instr → Row
  | .rst => { width := 12, mask := 0x800, bits := 0x800 }
  | .nop _ => { width := 12, mask := 0xE00, bits := 0x000 }
  | .tick _ => { width := 12, mask := 0xE00, bits := 0x400 }
  | .rx _ _ => { width := 12, mask := 0xE00, bits := 0x200 }
  | .tickrx _ _ => { width := 12, mask := 0xE00, bits := 0x600 }
  | .idle => { width := 5, mask := 0x1F, bits := 0x00 }
  | .tx0 => { width := 5, mask := 0x1F, bits := 0x01 }
  | .tx1 => { width := 5, mask := 0x1F, bits := 0x02 }
  | .tx2 => { width := 5, mask := 0x1F, bits := 0x03 }
  | .tx3 => { width := 5, mask := 0x1F, bits := 0x04 }
  | .tx4 => { width := 5, mask := 0x1F, bits := 0x05 }
  | .tx5 => { width := 5, mask := 0x1F, bits := 0x06 }
  | .tx6 => { width := 5, mask := 0x1F, bits := 0x07 }
  | .tx7 => { width := 5, mask := 0x1F, bits := 0x08 }
  | .txend => { width := 5, mask := 0x1F, bits := 0x09 }
  | .wait => { width := 5, mask := 0x1F, bits := 0x0A }
  | .gate => { width := 5, mask := 0x1F, bits := 0x0B }
  | .crc0 => { width := 5, mask := 0x1F, bits := 0x0C }
  | .crc1 => { width := 5, mask := 0x1F, bits := 0x0D }
  | .crc2 => { width := 5, mask := 0x1F, bits := 0x0E }
  | .crc3 => { width := 5, mask := 0x1F, bits := 0x0F }
  | .crc4 => { width := 5, mask := 0x1F, bits := 0x10 }
  | .cmp => { width := 5, mask := 0x1F, bits := 0x11 }
  | .clr => { width := 5, mask := 0x1F, bits := 0x12 }
  | .requestFrame => { width := 64, mask := 0xFFFFFFFFFFFFFFFF, bits := 0x010300000001840A }
  | .responseFrame _ _ _ _ => { width := 56, mask := 0xFFFFFF00000000, bits := 0x01030200000000 }

/-- The width of a table word. -/
def TableWord.width : TableWord → Nat
  | .input _ => 12
  | .seqCode _ => Config.wQ
  | .request _ => 8 * Config.reqLen
  | .response _ => 8 * Config.respLen

/-- The bits of a table word as a number, bit 0 least significant. -/
def TableWord.toNat : TableWord → Nat
  | .input w => w.toNat
  | .seqCode c => c.toNat
  | .request f => f.toNat
  | .response f => f.toNat

/-- A word has a row's width and its fixed bits (rules R50, R57). -/
def Row.fits (r : Row) (t : TableWord) : Bool :=
  t.width == r.width && (t.toNat &&& r.mask) == r.bits

end Sys2Proof
end

