-- ==== Sys2Proof/Machine/State.lean ====
section
/-! DEFINITION. The state of MBCORE: the twelve elements of rule R27; beside it the environment's input stream
(rule R26), which a run needs; the state after reset; the reasons a step can stop. -/

namespace Sys2Proof.Machine

/-- Q, the sequencer state register (rule R21): 19 named states (rule R53 asks for a 19-value type; log 4). -/
inductive SeqState where
  | idle
  | tx0
  | tx1
  | tx2
  | tx3
  | tx4
  | tx5
  | tx6
  | tx7
  | txend
  | wait
  | gate
  | crc0
  | crc1
  | crc2
  | crc3
  | crc4
  | cmp
  | clr
  deriving DecidableEq, Repr

/-- An index of RXBUF, 0 to 8 (rules R30, R31): an index outside the buffer cannot be formed (log 14). -/
abbrev BufIndex := Fin Config.rxbufLen

/-- The stored bytes of RXBUF (rules R14, R30): (index, byte) pairs, indices strictly rising. An index that is not listed
holds no stored byte; every byte that was written is listed (log 3). -/
abbrev Memory := List Host.Cell

/-- The state of MBCORE: exactly the twelve elements of rule R27, and no others (rule R29). The input word of the cycle and
the words to come are no part of it (rule R26); `cycle` takes the word as an argument. -/
structure Mbcore where
  /-- PTC, the poll tick counter (rule R10). -/
  ptc : BitVec Config.wPtc
  /-- POLL_FLAG, the ready-to-send flag (rule R11). -/
  pollFlag : Bool
  /-- RTO, the receive timeout counter (rule R12). -/
  rto : BitVec Config.wRto
  /-- RX_COUNT, the receive byte count (rule R13). -/
  rxCount : BitVec Config.wCount
  /-- RXBUF[0..8], the receive buffer (rule R14). -/
  rxbuf : Memory
  /-- DATA_AVAIL, the data-available flag (rule R15). -/
  dataAvail : Bool
  /-- CRC_HI (rule R17). -/
  crcHi : Byte
  /-- CRC_LO (rule R17). -/
  crcLo : Byte
  /-- PRESSURE (rule R18). -/
  pressure : Word16
  /-- PRES_UPD, the pressure-updated pulse (rule R19). -/
  presUpd : Bool
  /-- DIR, the transport direction: false receive, true transmit (rule R20). -/
  dir : Bool
  /-- Q, the sequencer state (rule R21). -/
  q : SeqState
  deriving DecidableEq, Repr

/-- What the environment applies next (rule R26; log 1). -/
inductive Stimulus where
  /-- One input word, for one clock cycle (rule R47). -/
  | word (w : InputWord)
  /-- The transport's side of one request frame (rule R46; log 6). -/
  | request
  /-- One expected response frame arriving on the line (rule R48; log 6). -/
  | response (dataHi dataLo crcLo crcHi : Byte)
  deriving DecidableEq, Repr

/-- The environment of MBCORE: not hardware and no state of MBCORE, but the rest of the input stream (rule R26), which a run
of the model needs beside MBCORE's state. The two fields are the MODEL's own. -/
structure Environment where
  /-- What the environment applies next, first item first (log 1). -/
  stimuli : List Stimulus
  /-- Which free input word comes next when `stimuli` is empty (log 2). -/
  envCycle : Nat
  deriving DecidableEq, Repr

/-- What a run of the model carries: MBCORE's state and its environment (log 1). -/
structure State extends Mbcore, Environment where
  deriving DecidableEq, Repr

/-- The faults of MBCORE: none. "No exception is ever raised, no trap is ever taken" (rule R145), and an index outside
RXBUF cannot be formed (rule R31). The type has no constructor, so no step can answer a fault (log 14). -/
inductive Fault where
  deriving DecidableEq, Repr

/-- Why the model can refuse an instruction. -/
inductive Refusal where
  /-- Raised by exec for a row that has no meaning yet; safe. No arm of exec raises it. -/
  | notModelled (mnemonic : String)
  deriving DecidableEq, Repr

/-- MBCORE after reset (rules R27, R165): every register at the value rule R27 gives; RXBUF with no stored byte, each byte
reading as a free value (rule R170: runs start in RESET_STATE with RXBUF unspecified; log 3). -/
def Mbcore.reset : Mbcore where
  ptc := 0#Config.wPtc
  pollFlag := false
  rto := 0#Config.wRto
  rxCount := 0#Config.wCount
  rxbuf := []
  dataAvail := false
  crcHi := 0xFF#8
  crcLo := 0xFF#8
  pressure := 0x0000#16
  presUpd := false
  dir := false
  q := .idle

/-- The machine right after reset: MBCORE after reset, and an environment that was given nothing (logs 1, 2). -/
def State.reset : State where
  toMbcore := Mbcore.reset
  stimuli := []
  envCycle := 0

end Sys2Proof.Machine
end

