-- ==== Sys2Proof/Machine/Ops.lean ====
section
/-! DEFINITION. The named operations over the state of MBCORE: one write per register, the memory primitives of rule R31, and
RESET_STATE (rule R165). Taking an exception and returning from one have no operation here because MBCORE has neither:
no exception is raised, nothing is saved or vectored (rules R145, R153), and there is no mode (rule R155). -/

namespace Sys2Proof.Machine

/-- Write PTC (rule R10). -/
def Mbcore.setPtc (s : Mbcore) (v : BitVec Config.wPtc) : Mbcore := { s with ptc := v }

/-- Write POLL_FLAG (rule R11). -/
def Mbcore.setPollFlag (s : Mbcore) (v : Bool) : Mbcore := { s with pollFlag := v }

/-- Write RTO (rule R12). -/
def Mbcore.setRto (s : Mbcore) (v : BitVec Config.wRto) : Mbcore := { s with rto := v }

/-- Write RX_COUNT (rule R13). -/
def Mbcore.setRxCount (s : Mbcore) (v : BitVec Config.wCount) : Mbcore := { s with rxCount := v }

/-- Write RXBUF (rule R14). -/
def Mbcore.setRxbuf (s : Mbcore) (v : Memory) : Mbcore := { s with rxbuf := v }

/-- Write DATA_AVAIL (rule R15). -/
def Mbcore.setDataAvail (s : Mbcore) (v : Bool) : Mbcore := { s with dataAvail := v }

/-- Write CRC_HI (rule R17). -/
def Mbcore.setCrcHi (s : Mbcore) (v : Byte) : Mbcore := { s with crcHi := v }

/-- Write CRC_LO (rule R17). -/
def Mbcore.setCrcLo (s : Mbcore) (v : Byte) : Mbcore := { s with crcLo := v }

/-- Write PRESSURE (rule R18). -/
def Mbcore.setPressure (s : Mbcore) (v : Word16) : Mbcore := { s with pressure := v }

/-- Write PRES_UPD (rule R19). -/
def Mbcore.setPresUpd (s : Mbcore) (v : Bool) : Mbcore := { s with presUpd := v }

/-- Write DIR (rule R20). -/
def Mbcore.setDir (s : Mbcore) (v : Bool) : Mbcore := { s with dir := v }

/-- Write Q (rule R21). -/
def Mbcore.setQ (s : Mbcore) (v : SeqState) : Mbcore := { s with q := v }

/-- The two writes of the CRC registers in one step (rules R69, R70). -/
def Mbcore.setCrc (s : Mbcore) (p : CrcPair) : Mbcore := (s.setCrcHi p.hi).setCrcLo p.lo

/-- The CRC registers as a pair (rule R17). -/
def Mbcore.crcPair (s : Mbcore) : CrcPair := { hi := s.crcHi, lo := s.crcLo }

/-- The byte stored at an index, if one was written since reset. -/
def Memory.lookup (i : Nat) : List Host.Cell → Option Byte
  | [] => none
  | c :: cs => if c.1 = i then some c.2 else Memory.lookup i cs

/-- Store a byte, keeping the indices strictly rising. -/
def Memory.insert (i : Nat) (v : Byte) : List Host.Cell → List Host.Cell
  | [] => [(i, v)]
  | c :: cs =>
    if i < c.1 then (i, v) :: c :: cs
    else if i = c.1 then (i, v) :: cs
    else c :: Memory.insert i v cs

/-- The canonical form: indices strictly rising, all inside the buffer (rule R30). -/
def Memory.wf (m : Memory) : Bool :=
  decide (m.Pairwise fun a b => a.1 < b.1) && m.all fun c => decide (c.1 < Config.rxbufLen)

/-- MemRead(RXBUF, i, 1) (rule R31): the stored byte; where no write has stored one, `unspecified`, a free value of the
index (log 3). Reading changes nothing (rule R39). -/
def Memory.read (m : Memory) (i : BufIndex) : Byte :=
  (Memory.lookup i.val m).getD (Config.unwrittenByte i.val)

/-- MemWrite(RXBUF, i, 1, v) (rule R31). -/
def Memory.write (m : Memory) (i : BufIndex) (v : Byte) : Memory := Memory.insert i.val v m

/-- RXBUF[i] (rule R9). -/
def Mbcore.buf (s : Mbcore) (i : BufIndex) : Byte := s.rxbuf.read i

/-- RXBUF[i] has been written since reset. -/
def Mbcore.written (s : Mbcore) (i : BufIndex) : Bool := (Memory.lookup i.val s.rxbuf).isSome

/-- RESET_STATE (rule R165): every register takes its reset value of rule R27; RXBUF is not written. -/
def Mbcore.resetState (s : Mbcore) : Mbcore :=
  { s with
    ptc := 0#Config.wPtc
    pollFlag := false
    rto := 0#Config.wRto
    rxCount := 0#Config.wCount
    dataAvail := false
    crcHi := 0xFF#8
    crcLo := 0xFF#8
    pressure := 0x0000#16
    presUpd := false
    dir := false
    q := .idle }

/-- MBCORE makes a move; the environment stays as it is (rule R26). -/
def State.onCore (s : State) (f : Mbcore → Mbcore) : State := { s with toMbcore := f s.toMbcore }

/-- Write the environment's list of stimuli (log 1). -/
def State.setStimuli (s : State) (v : List Stimulus) : State := { s with stimuli := v }

/-- Write the counter of free input words (log 2). -/
def State.setEnvCycle (s : State) (v : Nat) : State := { s with envCycle := v }

end Sys2Proof.Machine
end

