-- ==== Sys2Proof/Machine/Operands.lean ====
section
/-! DEFINITION. Every operand form: the input word of the current cycle, the two 16-bit values assembled from buffer
bytes (rule R49), and the words of the stimulus notation (rules R60, R61). -/

namespace Sys2Proof.Machine

/-- The word `NOP, RDY` (rule R60). -/
def readyWord : InputWord := makeInput false false false true 0x00#8

/-- The word `RX b` (rule R60). -/
def rxWord (b : Byte) : InputWord := makeInput false false true false b

/-- READY n (rule R61). -/
def readyWords (n : Nat) : List InputWord := List.replicate n readyWord

/-- FRAME b0 b1 ... (rule R61): one byte per cycle with no gap. -/
def frameWords (bs : List Byte) : List InputWord := bs.map rxWord

/-- The input word of the current cycle (rule R47): the environment's next one, where none was given a free word
(log 2); for a whole frame the first word it stands for (log 6). -/
def Environment.inputWord (e : Environment) : InputWord :=
  match e.stimuli with
  | [] => Config.envInput e.envCycle
  | .word w :: _ => w
  | .request :: _ => readyWord
  | .response _ _ _ _ :: _ => rxWord Config.slaveAddr

/-- The input bit tx_ready of the environment's current word, the operand that a step hands to TX0 to TX7 (rule R85; log 5). -/
def Environment.txReady (e : Environment) : Bool := inputTxReady e.inputWord

/-- The pressure field, RXBUF[3] * 256 + RXBUF[4] (rule R49). -/
def Mbcore.framePressure (s : Mbcore) : Word16 := joinBytes (s.buf 3) (s.buf 4)

/-- The received checksum, RXBUF[5] + 256 * RXBUF[6] (rule R49). -/
def Mbcore.frameChecksum (s : Mbcore) : Word16 := joinBytes (s.buf 6) (s.buf 5)

/-- The bytes the validator's CRC covers, the leading CRC_LEN bytes RXBUF[0] to RXBUF[4] (rules R5, R78, R115). -/
def Mbcore.frameHead (s : Mbcore) : List Byte := (List.ofFn s.buf).take Config.crcLen

end Sys2Proof.Machine
end

