-- ==== Sys2Proof/Machine/Flags.lean ====
section
/-! DEFINITION. Every condition the rules compute: the poll threshold, the timeout cap, the full buffer, the exit of the
wait loop, and the outcome labels of a validation attempt (rule R146; labels only, never stored or shown). -/

namespace Sys2Proof.Machine

/-- The incremented poll count exceeds POLL_THRESHOLD (rule R81). -/
def Mbcore.pollFires (s : Mbcore) : Bool := decide (s.ptc.toNat + 1 > Config.pollThreshold)

/-- RTO is below its cap (rule R97). -/
def Mbcore.rtoRuns (s : Mbcore) : Bool := decide (s.rto.toNat < Config.rtoCap)

/-- The exit condition of the wait loop (rule R100): RX_COUNT > 7 or RTO >= 10. -/
def Mbcore.waitOver (s : Mbcore) : Bool :=
  decide (s.rxCount.toNat > Config.readyExceed) || decide (s.rto.toNat ≥ Config.rtoLimit)

/-- The outcome labels (rule R146). -/
inductive Verdict where
  | ok
  | short
  | badHeader
  | badCrc
  deriving DecidableEq, Repr

/-- The label GATE raises, if any (rules R111, R150): count gate, then the header bytes in index order. -/
def Mbcore.gateVerdict (s : Mbcore) : Option Verdict :=
  if s.rxCount.toNat < Config.decodeMinCount then some .short
  else if s.buf 0 ≠ Config.slaveAddr then some .badHeader
  else if s.buf 1 ≠ Config.funcCode then some .badHeader
  else if s.buf 2 ≠ Config.byteCount then some .badHeader
  else none

/-- The comparison of all 16 bits in CMP (rule R118). -/
def Mbcore.crcMatches (s : Mbcore) : Bool := s.crcPair.value == s.frameChecksum

/-- The label CMP raises (rule R118). -/
def Mbcore.cmpVerdict (s : Mbcore) : Verdict := if s.crcMatches then .ok else .badCrc

end Sys2Proof.Machine
end

