-- ==== Sys2Proof/Machine/Events.lean ====
section
/-! DEFINITION. The atomic steps of the agents TICK and RX (rules R81, R96, R97). -/

namespace Sys2Proof.Machine

/-- TICK.poll (rule R81): the compare is made on the incremented value; the flag is only ever set here. -/
def Mbcore.tickPoll (s : Mbcore) : Mbcore :=
  if s.pollFires then (s.setPtc 0#Config.wPtc).setPollFlag true else s.setPtc (s.ptc + 1#Config.wPtc)

/-- TICK.rto (rule R97): counts up to RTO_CAP and stays there. -/
def Mbcore.tickRto (s : Mbcore) : Mbcore :=
  if s.rtoRuns then s.setRto (s.rto + 1#Config.wRto) else s

/-- The step of agent TICK: both halves (rules R81, R97, R134). -/
def Mbcore.tickStep (s : Mbcore) : Mbcore := s.tickPoll.tickRto

/-- The append of the byte-arrival step: at index RX_COUNT, unless the buffer is full (rules R96, R102). -/
def Mbcore.appendByte (s : Mbcore) (b : Byte) : Mbcore :=
  if h : s.rxCount.toNat < Config.rxbufLen then
    (s.setRxbuf (s.rxbuf.write ⟨s.rxCount.toNat, h⟩ b)).setRxCount (s.rxCount + 1#Config.wCount)
  else s

/-- RX(b), the step of agent RX (rule R96). -/
def Mbcore.rxStep (s : Mbcore) (b : Byte) : Mbcore := ((s.appendByte b).setRto 0#Config.wRto).setDataAvail true

end Sys2Proof.Machine
end

