-- ==== Sys2Proof/Machine/Poll.lean ====
section
/-! DEFINITION. The micro-operations of the send sequence: IDLE, TX0 to TX7, TXEND (41_poll_trigger.md). Each has its
effect on the state (`micro…`), which SEQ performs, and its meaning as an instruction (`exec…`; log 5). -/

namespace Sys2Proof.Machine

/-- IDLE (rule R84): POLL_FLAG is tested first, DATA_AVAIL second. -/
def microIdle (s : Mbcore) : Mbcore :=
  if s.pollFlag then (s.setDir true).setQ .tx0
  else if s.dataAvail then s.setQ .wait
  else s.setQ .idle

/-- Present a request byte until the transport completes it (rule R85): stay in `here`, or go to `next`. -/
def presentByte (here next : SeqState) (txReady : Bool) (s : Mbcore) : Mbcore :=
  if txReady then s.setQ next else s.setQ here

/-- TX0 (rule R85): REQ[0] is presented (rule R25). -/
def microTx0 (txReady : Bool) (s : Mbcore) : Mbcore := presentByte .tx0 .tx1 txReady s

/-- TX1 (rule R85). -/
def microTx1 (txReady : Bool) (s : Mbcore) : Mbcore := presentByte .tx1 .tx2 txReady s

/-- TX2 (rule R85). -/
def microTx2 (txReady : Bool) (s : Mbcore) : Mbcore := presentByte .tx2 .tx3 txReady s

/-- TX3 (rule R85). -/
def microTx3 (txReady : Bool) (s : Mbcore) : Mbcore := presentByte .tx3 .tx4 txReady s

/-- TX4 (rule R85). -/
def microTx4 (txReady : Bool) (s : Mbcore) : Mbcore := presentByte .tx4 .tx5 txReady s

/-- TX5 (rule R85). -/
def microTx5 (txReady : Bool) (s : Mbcore) : Mbcore := presentByte .tx5 .tx6 txReady s

/-- TX6 (rule R85). -/
def microTx6 (txReady : Bool) (s : Mbcore) : Mbcore := presentByte .tx6 .tx7 txReady s

/-- TX7 (rule R85): the last byte; the next state is TXEND. -/
def microTx7 (txReady : Bool) (s : Mbcore) : Mbcore := presentByte .tx7 .txend txReady s

/-- TXEND (rule R87): five writes in one step; DATA_AVAIL, PTC and RXBUF are not touched. -/
def microTxend (s : Mbcore) : Mbcore :=
  ((((s.setDir false).setPollFlag false).setRxCount 0#Config.wCount).setRto 0#Config.wRto).setQ .idle

/-- The row IDLE. -/
def execIdle (s : State) : Host.Outcome State Fault Refusal := .next (s.onCore microIdle)

/-- The row TX0. -/
def execTx0 (s : State) : Host.Outcome State Fault Refusal := .next (s.onCore (microTx0 s.txReady))

/-- The row TX1. -/
def execTx1 (s : State) : Host.Outcome State Fault Refusal := .next (s.onCore (microTx1 s.txReady))

/-- The row TX2. -/
def execTx2 (s : State) : Host.Outcome State Fault Refusal := .next (s.onCore (microTx2 s.txReady))

/-- The row TX3. -/
def execTx3 (s : State) : Host.Outcome State Fault Refusal := .next (s.onCore (microTx3 s.txReady))

/-- The row TX4. -/
def execTx4 (s : State) : Host.Outcome State Fault Refusal := .next (s.onCore (microTx4 s.txReady))

/-- The row TX5. -/
def execTx5 (s : State) : Host.Outcome State Fault Refusal := .next (s.onCore (microTx5 s.txReady))

/-- The row TX6. -/
def execTx6 (s : State) : Host.Outcome State Fault Refusal := .next (s.onCore (microTx6 s.txReady))

/-- The row TX7. -/
def execTx7 (s : State) : Host.Outcome State Fault Refusal := .next (s.onCore (microTx7 s.txReady))

/-- The row TXEND. -/
def execTxend (s : State) : Host.Outcome State Fault Refusal := .next (s.onCore microTxend)

end Sys2Proof.Machine
end

