-- ==== Sys2Proof/Machine/Receiver.lean ====
section
/-! DEFINITION. The wait loop of the frame receiver (42_receiver.md). -/

namespace Sys2Proof.Machine

/-- WAIT (rule R100): the values tested are those at the start of the cycle; nothing else is written. -/
def microWait (s : Mbcore) : Mbcore := if s.waitOver then s.setQ .gate else s.setQ .wait

/-- The row WAIT. -/
def execWait (s : State) : Host.Outcome State Fault Refusal := .next (s.onCore microWait)

end Sys2Proof.Machine
end

