-- ==== Sys2Proof/Machine/Validator.lean ====
section
/-! DEFINITION. The validator and decoder: GATE, CRC0 to CRC4, CMP, CLR (43_validator.md). -/

namespace Sys2Proof.Machine

/-- GATE (rule R111): on a label go to CLR with nothing else written; otherwise CRC_INIT (rule R70) and CRC0. -/
def microGate (s : Mbcore) : Mbcore :=
  match s.gateVerdict with
  | some _ => s.setQ .clr
  | none => (s.setCrc crcInit).setQ .crc0

/-- One CRC step of the validator (rules R69, R114): CRC_BYTE(RXBUF[k]), then the next state. -/
def crcStep (k : BufIndex) (next : SeqState) (s : Mbcore) : Mbcore :=
  (s.setCrc (crcByte s.crcPair (s.buf k))).setQ next

/-- CRC0 (rule R114). -/
def microCrc0 (s : Mbcore) : Mbcore := crcStep 0 .crc1 s

/-- CRC1 (rule R114). -/
def microCrc1 (s : Mbcore) : Mbcore := crcStep 1 .crc2 s

/-- CRC2 (rule R114). -/
def microCrc2 (s : Mbcore) : Mbcore := crcStep 2 .crc3 s

/-- CRC3 (rule R114). -/
def microCrc3 (s : Mbcore) : Mbcore := crcStep 3 .crc4 s

/-- CRC4 (rule R114): the last step; the next state is CMP. -/
def microCrc4 (s : Mbcore) : Mbcore := crcStep 4 .cmp s

/-- CMP (rule R118): on a match of all 16 bits the pressure is latched and the pulse raised. -/
def microCmp (s : Mbcore) : Mbcore :=
  if s.crcMatches then ((s.setPressure s.framePressure).setPresUpd true).setQ .clr else s.setQ .clr

/-- CLR (rule R120): RTO, RXBUF, PRESSURE, CRC_HI and CRC_LO are not touched. -/
def microClr (s : Mbcore) : Mbcore := (((s.setDataAvail false).setRxCount 0#Config.wCount).setPresUpd false).setQ .idle

/-- The row GATE. -/
def execGate (s : State) : Host.Outcome State Fault Refusal := .next (s.onCore microGate)

/-- The row CRC0. -/
def execCrc0 (s : State) : Host.Outcome State Fault Refusal := .next (s.onCore microCrc0)

/-- The row CRC1. -/
def execCrc1 (s : State) : Host.Outcome State Fault Refusal := .next (s.onCore microCrc1)

/-- The row CRC2. -/
def execCrc2 (s : State) : Host.Outcome State Fault Refusal := .next (s.onCore microCrc2)

/-- The row CRC3. -/
def execCrc3 (s : State) : Host.Outcome State Fault Refusal := .next (s.onCore microCrc3)

/-- The row CRC4. -/
def execCrc4 (s : State) : Host.Outcome State Fault Refusal := .next (s.onCore microCrc4)

/-- The row CMP. -/
def execCmp (s : State) : Host.Outcome State Fault Refusal := .next (s.onCore microCmp)

/-- The row CLR. -/
def execClr (s : State) : Host.Outcome State Fault Refusal := .next (s.onCore microClr)

end Sys2Proof.Machine
end

