-- ==== Sys2Proof/Machine/Cycle.lean ====
section
/-! DEFINITION. The clock cycle (44_cycle_ops.md): SEQ and CYCLE over the state of MBCORE, with the input word as an
argument (rule R26), and the five operations an input word selects. -/

namespace Sys2Proof.Machine

/-- SEQ(S, tx_ready) (rule R131): the one micro-operation that Q selects. -/
def seqStep (txReady : Bool) (s : Mbcore) : Mbcore :=
  match s.q with
  | .idle => microIdle s
  | .tx0 => microTx0 txReady s
  | .tx1 => microTx1 txReady s
  | .tx2 => microTx2 txReady s
  | .tx3 => microTx3 txReady s
  | .tx4 => microTx4 txReady s
  | .tx5 => microTx5 txReady s
  | .tx6 => microTx6 txReady s
  | .tx7 => microTx7 txReady s
  | .txend => microTxend s
  | .wait => microWait s
  | .gate => microGate s
  | .crc0 => microCrc0 s
  | .crc1 => microCrc1 s
  | .crc2 => microCrc2 s
  | .crc3 => microCrc3 s
  | .crc4 => microCrc4 s
  | .cmp => microCmp s
  | .clr => microClr s

/-- CYCLE(S, w) (rule R130): reset overrides all; else SEQ, then TICK, then RX. -/
def cycle (s : Mbcore) (w : InputWord) : Mbcore :=
  if inputRst w then s.resetState
  else
    let s1 := seqStep (inputTxReady w) s
    let s2 := if inputTick w then s1.tickStep else s1
    if inputRxValid w then s2.rxStep (inputRxData w) else s2

/-- A program of input words, one per clock cycle (rules R41, R60). -/
def runWords (s : Mbcore) : List InputWord → Mbcore
  | [] => s
  | w :: ws => runWords (cycle s w) ws

/-- RST (rule R137): the sequencer, the tick and the byte of the cycle are ignored. -/
def execRst (s : State) : Host.Outcome State Fault Refusal := .next (s.onCore Mbcore.resetState)

/-- NOP (rule R133): only the sequencer acts. -/
def execNop (txReady : Bool) (s : State) : Host.Outcome State Fault Refusal := .next (s.onCore (seqStep txReady))

/-- TICK (rule R134): the tick after the sequencer. -/
def execTick (txReady : Bool) (s : State) : Host.Outcome State Fault Refusal :=
  .next (s.onCore fun m => (seqStep txReady m).tickStep)

/-- RX d (rule R135): the byte after the sequencer. -/
def execRx (txReady : Bool) (data : Byte) (s : State) : Host.Outcome State Fault Refusal :=
  .next (s.onCore fun m => (seqStep txReady m).rxStep data)

/-- TICKRX d (rule R136): the sequencer, the tick, the byte. -/
def execTickrx (txReady : Bool) (data : Byte) (s : State) : Host.Outcome State Fault Refusal :=
  .next (s.onCore fun m => (seqStep txReady m).tickStep.rxStep data)

end Sys2Proof.Machine
end

