-- ==== Sys2Proof/Machine/Frames.lean ====
section
/-! DEFINITION. The two frames as instructions (rules R45, R46, R48; log 6): a whole frame on the line, in index order, byte
0 first (rule R59), one byte a clock cycle (rule R61). -/

namespace Sys2Proof.Machine

/-- REQUEST_FRAME (rule R46): READY 8 (rule R61), the eight cycles in which the transport completes one byte each
(rule R86). From Q = TX0 the bytes REQ[0] to REQ[7] are transferred in order and Q ends at TXEND. -/
def execRequestFrame (s : State) : Host.Outcome State Fault Refusal :=
  .next (s.onCore fun m => runWords m (readyWords Config.reqLen))

/-- RESPONSE_FRAME (rule R48): FRAME 01 03 02 dataHi dataLo crcLo crcHi (rule R61), seven cycles with one received byte
each. -/
def execResponseFrame (dataHi dataLo crcLo crcHi : Byte) (s : State) : Host.Outcome State Fault Refusal :=
  .next (s.onCore fun m => runWords m (frameWords (responseBytes dataHi dataLo crcLo crcHi)))

end Sys2Proof.Machine
end

