-- ==== Sys2Proof/Machine/Dispatch.lean ====
section
/-! DEFINITION. The dispatch: one arm per row of the opcode table. -/

namespace Sys2Proof.Machine

def exec (i : Instr) (s : State) : Host.Outcome State Fault Refusal :=
  match i with
  | .rst => Sys2Proof.Machine.execRst s
  | .nop txReady => Sys2Proof.Machine.execNop txReady s
  | .tick txReady => Sys2Proof.Machine.execTick txReady s
  | .rx txReady data => Sys2Proof.Machine.execRx txReady data s
  | .tickrx txReady data => Sys2Proof.Machine.execTickrx txReady data s
  | .idle => Sys2Proof.Machine.execIdle s
  | .tx0 => Sys2Proof.Machine.execTx0 s
  | .tx1 => Sys2Proof.Machine.execTx1 s
  | .tx2 => Sys2Proof.Machine.execTx2 s
  | .tx3 => Sys2Proof.Machine.execTx3 s
  | .tx4 => Sys2Proof.Machine.execTx4 s
  | .tx5 => Sys2Proof.Machine.execTx5 s
  | .tx6 => Sys2Proof.Machine.execTx6 s
  | .tx7 => Sys2Proof.Machine.execTx7 s
  | .txend => Sys2Proof.Machine.execTxend s
  | .wait => Sys2Proof.Machine.execWait s
  | .gate => Sys2Proof.Machine.execGate s
  | .crc0 => Sys2Proof.Machine.execCrc0 s
  | .crc1 => Sys2Proof.Machine.execCrc1 s
  | .crc2 => Sys2Proof.Machine.execCrc2 s
  | .crc3 => Sys2Proof.Machine.execCrc3 s
  | .crc4 => Sys2Proof.Machine.execCrc4 s
  | .cmp => Sys2Proof.Machine.execCmp s
  | .clr => Sys2Proof.Machine.execClr s
  | .requestFrame => Sys2Proof.Machine.execRequestFrame s
  | .responseFrame dataHi dataLo crcLo crcHi => Sys2Proof.Machine.execResponseFrame dataHi dataLo crcLo crcHi s

end Sys2Proof.Machine
end

