-- ==== Sys2Proof/Machine/Fetch.lean ====
section
/-! DEFINITION. Which instruction the next step runs, and what a step consumes (logs 1, 2, 5, 6). -/

namespace Sys2Proof.Machine

/-- The table row a stimulus stands for: an input word is decoded, a whole frame is its row. -/
def Stimulus.instr : Stimulus → Instr
  | .word w => decodeInput w
  | .request => .requestFrame
  | .response h l c d => .responseFrame h l c d

/-- The instruction of the next step: the environment's next stimulus, or where none was given a free input word. -/
def Environment.fetch (e : Environment) : Instr :=
  match e.stimuli with
  | [] => decodeInput (Config.envInput e.envCycle)
  | x :: _ => x.instr

/-- The environment moves on: the stimulus is used up, or the free word is. -/
def State.consume (s : State) : State :=
  match s.stimuli with
  | [] => s.setEnvCycle (s.envCycle + 1)
  | _ :: rest => s.setStimuli rest

/-- The state of Q an instruction of format `q_state` stands for. -/
def seqStateOf : Instr → Option SeqState
  | .idle => some .idle
  | .tx0 => some .tx0
  | .tx1 => some .tx1
  | .tx2 => some .tx2
  | .tx3 => some .tx3
  | .tx4 => some .tx4
  | .tx5 => some .tx5
  | .tx6 => some .tx6
  | .tx7 => some .tx7
  | .txend => some .txend
  | .wait => some .wait
  | .gate => some .gate
  | .crc0 => some .crc0
  | .crc1 => some .crc1
  | .crc2 => some .crc2
  | .crc3 => some .crc3
  | .crc4 => some .crc4
  | .cmp => some .cmp
  | .clr => some .clr
  | .rst => none
  | .nop _ => none
  | .tick _ => none
  | .rx _ _ => none
  | .tickrx _ _ => none
  | .requestFrame => none
  | .responseFrame _ _ _ _ => none

/-- The micro-operation that Q selects, as an instruction (rule R131). -/
def SeqState.instr : SeqState → Instr
  | .idle => .idle
  | .tx0 => .tx0
  | .tx1 => .tx1
  | .tx2 => .tx2
  | .tx3 => .tx3
  | .tx4 => .tx4
  | .tx5 => .tx5
  | .tx6 => .tx6
  | .tx7 => .tx7
  | .txend => .txend
  | .wait => .wait
  | .gate => .gate
  | .crc0 => .crc0
  | .crc1 => .crc1
  | .crc2 => .crc2
  | .crc3 => .crc3
  | .crc4 => .crc4
  | .cmp => .cmp
  | .clr => .clr

/-- Put a table word where the next step fetches (log 1). An input word goes to the front of the stimuli. A code of Q
goes into Q, with the input word NOP in front, so that the step runs exactly that micro-operation. The request frame
goes to the front with Q at TX0, where its first byte is presented. The response frame goes to the front. A word that
the decoder rejects cannot be placed and leaves the state as it is. -/
def State.place (s : State) (t : TableWord) : State :=
  match t with
  | .input w => s.setStimuli (.word w :: s.stimuli)
  | .seqCode c =>
    match decodeSeqCode c with
    | .ok i =>
      match seqStateOf i with
      | some x => (s.onCore fun m => m.setQ x).setStimuli (.word 0x000#12 :: s.stimuli)
      | none => s
    | .error _ => s
  | .request f =>
    match decodeRequest f with
    | .ok _ => (s.onCore fun m => m.setQ .tx0).setStimuli (.request :: s.stimuli)
    | .error _ => s
  | .response f =>
    match decodeResponse f with
    | .ok (.responseFrame h l c d) => s.setStimuli (.response h l c d :: s.stimuli)
    | _ => s

end Sys2Proof.Machine
end

