-- ==== Sys2Proof/Machine/Step.lean ====
section
/-! DEFINITION. One step: run the fetched instruction, then let the environment move on. -/

namespace Sys2Proof.Machine

/-- One step of the machine: one clock cycle for an input word, the cycles of a whole frame for a frame (log 6). -/
def step (s : State) : Host.Outcome State Fault Refusal :=
  match exec s.fetch s with
  | .next t => .next t.consume
  | .fault f => .fault f
  | .refused r => .refused r

/-- The state with a table word where the next step fetches its instruction (log 1). -/
def State.withFetchWord (s : State) (nbits w : Nat) : State :=
  match tableWord nbits w with
  | some t => s.place t
  | none => s

end Sys2Proof.Machine
end

