-- ==== Sys2Proof/Machine/Loose.lean ====
section
/-! DEFINITION. The looser model of rule R140: the atomic steps of SEQ, TICK and RX, one at a time, in any order. It stands
beside MBCORE, whose cycle fixes the order (rule R130); step does not use it (log 13). -/

namespace Sys2Proof.Machine

/-- One atomic step of the looser model. TXEND and CLR are single `seq` steps in it, as they are in MBCORE (rule R140). -/
inductive AgentStep where
  /-- SEQ (rule R131), with the tx_ready it samples. -/
  | seq (txReady : Bool)
  /-- TICK (rules R81, R97). -/
  | tick
  /-- RX(b) (rule R96). -/
  | rx (data : Byte)
  /-- RESET_STATE (rule R165): no agent's step, the reset that stops them all (log 13). -/
  | reset
  deriving DecidableEq, Repr

/-- The state after one atomic step. -/
def AgentStep.apply (a : AgentStep) (s : Mbcore) : Mbcore :=
  match a with
  | .seq txReady => seqStep txReady s
  | .tick => s.tickStep
  | .rx data => s.rxStep data
  | .reset => s.resetState

/-- A run of the looser model: any sequence of atomic steps. -/
def runAgents (s : Mbcore) : List AgentStep → Mbcore
  | [] => s
  | a :: rest => runAgents (a.apply s) rest

/-- The atomic steps of one clock cycle of MBCORE, in the order of rule R130. -/
def cycleAgents (w : InputWord) : List AgentStep :=
  if inputRst w then [.reset]
  else
    .seq (inputTxReady w) :: ((if inputTick w then [.tick] else []) ++
      if inputRxValid w then [.rx (inputRxData w)] else [])

end Sys2Proof.Machine
end

