-- ==== Sys2Proof/Machine/Outputs.lean ====
section
/-! DEFINITION. The output ports (rules R24, R25): functions of the state alone. -/

namespace Sys2Proof.Machine

/-- The code of Q (rule R52). -/
def SeqState.code : SeqState → BitVec Config.wQ
  | .idle => 0b00000#5
  | .tx0 => 0b00001#5
  | .tx1 => 0b00010#5
  | .tx2 => 0b00011#5
  | .tx3 => 0b00100#5
  | .tx4 => 0b00101#5
  | .tx5 => 0b00110#5
  | .tx6 => 0b00111#5
  | .tx7 => 0b01000#5
  | .txend => 0b01001#5
  | .wait => 0b01010#5
  | .gate => 0b01011#5
  | .crc0 => 0b01100#5
  | .crc1 => 0b01101#5
  | .crc2 => 0b01110#5
  | .crc3 => 0b01111#5
  | .crc4 => 0b10000#5
  | .cmp => 0b10001#5
  | .clr => 0b10010#5

/-- Q is TXi: the index i of the request byte presented (rule R85). -/
def SeqState.txIndex : SeqState → Option (Fin 8)
  | .tx0 => some 0
  | .tx1 => some 1
  | .tx2 => some 2
  | .tx3 => some 3
  | .tx4 => some 4
  | .tx5 => some 5
  | .tx6 => some 6
  | .tx7 => some 7
  | .idle => none
  | .txend => none
  | .wait => none
  | .gate => none
  | .crc0 => none
  | .crc1 => none
  | .crc2 => none
  | .crc3 => none
  | .crc4 => none
  | .cmp => none
  | .clr => none

/-- The decimal digit d[k] of PRESSURE (rule R121). -/
def digit (p : Word16) (k : Nat) : Nat := p.toNat / 10 ^ k % 10

/-- disp_char[j], j = 0 to 4, leftmost first (rules R58, R121). -/
def dispChar (p : Word16) (j : Nat) : Byte := Config.digitZero + BitVec.ofNat 8 (digit p (4 - j))

/-- The output ports (rule R24). -/
structure Outputs where
  /-- `tx_valid`. -/
  txValid : Bool
  /-- `tx_data`. -/
  txData : Byte
  /-- `dir`. -/
  dir : Bool
  /-- `pres`. -/
  pres : Word16
  /-- `pres_upd`. -/
  presUpd : Bool
  /-- `disp_char[0..4]`. -/
  dispChars : List Byte
  /-- `poll_flag`. -/
  pollFlag : Bool
  /-- `data_avail`. -/
  dataAvail : Bool
  /-- `rx_count`. -/
  rxCount : BitVec Config.wCount
  /-- `crc_out`. -/
  crcOut : Word16
  /-- `q`. -/
  q : BitVec Config.wQ
  deriving DecidableEq, Repr

/-- The outputs during a cycle that starts in this state (rule R25). -/
def Mbcore.outputs (s : Mbcore) : Outputs where
  txValid := s.q.txIndex.isSome
  txData :=
    match s.q.txIndex with
    | some i => reqByte i
    | none => 0x00#8
  dir := s.dir
  pres := s.pressure
  presUpd := s.presUpd
  dispChars := [dispChar s.pressure 0, dispChar s.pressure 1, dispChar s.pressure 2, dispChar s.pressure 3,
    dispChar s.pressure 4]
  pollFlag := s.pollFlag
  dataAvail := s.dataAvail
  rxCount := s.rxCount
  crcOut := s.crcPair.value
  q := s.q.code

/-- The request byte transferred to the transport in a cycle with this input word, if any (rule R86). A reset cycle
transfers none (rule R137). -/
def Mbcore.transfer (s : Mbcore) (w : InputWord) : Option Byte :=
  if !inputRst w && s.outputs.txValid && inputTxReady w then some s.outputs.txData else none

end Sys2Proof.Machine
end

