-- ==== Sys2Proof/Safety.lean ====
section
/-! DEFINITION. What claims about MBCORE speak of: the receiver's states, the valid-frame predicate, quiescence, the
bytes transferred in a run, and the invariants the spec states of every reachable state. -/

namespace Sys2Proof.Machine

/-- The receiver state IDLE (rule R95). -/
abbrev Mbcore.receiverIdle (s : Mbcore) : Prop := s.rxCount = 0#Config.wCount

/-- The receiver state ACCUMULATING (rule R95). -/
abbrev Mbcore.accumulating (s : Mbcore) : Prop := 1 ≤ s.rxCount.toNat ∧ s.rxCount.toNat ≤ 7

/-- The receiver state READY (rule R95). -/
abbrev Mbcore.ready (s : Mbcore) : Prop := 7 < s.rxCount.toNat ∧ s.dataAvail = true

/-- The receiver state TIMED-OUT (rule R95). -/
abbrev Mbcore.timedOut (s : Mbcore) : Prop := 10 ≤ s.rto.toNat ∧ s.q = .wait

/-- A quiescent state (rule R141). -/
abbrev Mbcore.quiescent (s : Mbcore) : Prop := s.q = .idle ∧ s.pollFlag = false ∧ s.dataAvail = false

/-- VALID(RXBUF, RX_COUNT) (rule R119). -/
abbrev Mbcore.validFrame (s : Mbcore) : Prop :=
  7 ≤ s.rxCount.toNat ∧ s.buf 0 = 0x01#8 ∧ s.buf 1 = 0x03#8 ∧ s.buf 2 = 0x02#8 ∧
    crc16 s.frameHead = s.frameChecksum

/-- The check of a frame of seven bytes against its own two trailing bytes, low byte first (rules R74, R76). -/
abbrev frameChecks (frame : List Byte) : Prop :=
  crc16 (frame.take Config.crcLen) = joinBytes (frame.getD 6 0) (frame.getD 5 0)

/-- A frame with bit j of byte i flipped (rule R76). -/
def flipBit (frame : List Byte) (i j : Nat) : List Byte := frame.modify i fun b => b ^^^ (1#8 <<< j)

/-- No word of a program resets (rule R47). -/
abbrev noReset (ws : List InputWord) : Prop := ∀ w ∈ ws, inputRst w = false

/-- How many words of a program carry a tick (rule R134). -/
def tickCount (ws : List InputWord) : Nat := ws.countP inputTick

/-- How many words of a program carry a byte (rule R135). -/
def byteCountOf (ws : List InputWord) : Nat := ws.countP inputRxValid

/-- How many words of a program have tx_ready = 1 (rule R86). -/
def readyCount (ws : List InputWord) : Nat := ws.countP inputTxReady

/-- The request bytes transferred to the transport in a run, first one first (rule R86). -/
def transfers (s : Mbcore) : List InputWord → List Byte
  | [] => []
  | w :: ws => (s.transfer w).toList ++ transfers (cycle s w) ws

/-- Q is one of TX0 to TX7 or TXEND (rule R28). -/
def SeqState.sending (q : SeqState) : Bool := q.txIndex.isSome || q == .txend

/-- In the validator's CRC states: how many of the five bytes the CRC registers have taken in (rules R114, R115). -/
def SeqState.crcDone : SeqState → Option Nat
  | .crc0 => some 0
  | .crc1 => some 1
  | .crc2 => some 2
  | .crc3 => some 3
  | .crc4 => some 4
  | .cmp => some 5
  | .idle => none
  | .tx0 => none
  | .tx1 => none
  | .tx2 => none
  | .tx3 => none
  | .tx4 => none
  | .tx5 => none
  | .tx6 => none
  | .tx7 => none
  | .txend => none
  | .wait => none
  | .gate => none
  | .clr => none

/-- Q is one of WAIT, GATE, CRC0 to CRC4, CMP, CLR: the sequencer is serving received bytes (rule R132). -/
def SeqState.serving (q : SeqState) : Bool := q == .wait || q == .gate || q == .clr || q.crcDone.isSome

/-- The ranges of rule R28. That Q is a named state holds by its type. -/
structure Mbcore.RangesHold (s : Mbcore) : Prop where
  ptc_le : s.ptc.toNat ≤ 100
  rto_le : s.rto.toNat ≤ 100
  rxCount_le : s.rxCount.toNat ≤ 9
  dir_iff : s.dir = true ↔ s.q.sending = true
  presUpd_clr : s.presUpd = true → s.q = .clr

/-- The receive buffer: canonical form, and every index below RX_COUNT has been written (rules R13, R168). -/
structure Mbcore.BufferHolds (s : Mbcore) : Prop where
  canonical : Memory.wf s.rxbuf = true
  filled : ∀ i : BufIndex, i.val < s.rxCount.toNat → s.written i = true

/-- The validation in progress (rules R111, R115, R116): the count and the header that passed GATE still stand, and the
CRC registers hold CRC16 of the bytes taken in so far. -/
structure Mbcore.ValidationHolds (s : Mbcore) : Prop where
  count : ∀ k, s.q.crcDone = some k → 7 ≤ s.rxCount.toNat
  header : ∀ k, s.q.crcDone = some k → s.buf 0 = 0x01#8 ∧ s.buf 1 = 0x03#8 ∧ s.buf 2 = 0x02#8
  running : ∀ k, s.q.crcDone = some k → s.crcPair.value = crc16 (s.frameHead.take k)

/-- The flags (rules R11, R15, R84, R87, R120): POLL_FLAG stands through the send sequence, DATA_AVAIL stands from
WAIT to CLR and whenever bytes are counted. -/
structure Mbcore.FlagsHold (s : Mbcore) : Prop where
  poll : s.q.sending = true → s.pollFlag = true
  serving : s.q.serving = true → s.dataAvail = true
  counted : 0 < s.rxCount.toNat → s.dataAvail = true

/-- What the byte-arrival step makes of a state (rules R96, R102): the byte at index RX_COUNT while there is room, the
count raised by one, RTO zero, DATA_AVAIL set, every other byte and register as before. -/
structure ByteFiled (u : State) (d : Byte) (t : State) : Prop where
  registers : t = { u with rxbuf := t.rxbuf, rxCount := t.rxCount, rto := 0#Config.wRto, dataAvail := true }
  count : t.rxCount.toNat = if u.rxCount.toNat < 9 then u.rxCount.toNat + 1 else u.rxCount.toNat
  bytes : ∀ i : BufIndex, t.buf i = if i.val = u.rxCount.toNat then d else u.buf i
  stored : ∀ i : BufIndex, t.written i = (decide (i.val = u.rxCount.toNat) || u.written i)
  full : 9 ≤ u.rxCount.toNat → t.rxbuf = u.rxbuf

/-- Two states that differ at most in buffer bytes at or above RX_COUNT, the stale or unwritten ones (rules R125, R168). -/
structure Mbcore.AgreeOnFresh (s t : Mbcore) : Prop where
  registers : t = { s with rxbuf := t.rxbuf }
  fresh : ∀ i : BufIndex, i.val < s.rxCount.toNat → s.buf i = t.buf i

end Sys2Proof.Machine
end

