-- ==== Sys2Proof/WellFormed.lean ====
section
/-! DEFINITION. Well-formedness of instructions. Every operand value of an input word is legal (rules R50, R54), a
micro-operation and the request frame have no operand, and the expected response frame has a value column (rule R48):
its two checksum bytes are the computed ones. The decoder and exec do not need the check (log 16). -/

namespace Sys2Proof

/-- The check of an instruction's operands. -/
def Instr.wellFormed : Instr → Bool
  | .rst => true
  | .nop _ => true
  | .tick _ => true
  | .rx _ _ => true
  | .tickrx _ _ => true
  | .idle => true
  | .tx0 => true
  | .tx1 => true
  | .tx2 => true
  | .tx3 => true
  | .tx4 => true
  | .tx5 => true
  | .tx6 => true
  | .tx7 => true
  | .txend => true
  | .wait => true
  | .gate => true
  | .crc0 => true
  | .crc1 => true
  | .crc2 => true
  | .crc3 => true
  | .crc4 => true
  | .cmp => true
  | .clr => true
  | .requestFrame => true
  | .responseFrame dataHi dataLo crcLo crcHi =>
      Machine.crc16 (Machine.responseHead dataHi dataLo) == Machine.joinBytes crcHi crcLo

end Sys2Proof
end

