-- ==== Sys2Proof/Certificates/Slice0/Obligations.lean ====
section
/-! DEFINITION. The statements for the provers, in the order of OBLIGATIONS.json. -/

open Sys2Proof Sys2Proof.Machine

/-! ## Encodings -/

/-- Decode and encode agree, for every instruction and every operand value (rules R46, R48, R50, R52). -/
def Obligations.DecodeEncodeRoundTrip : Prop := ∀ i : Instr, decode (encode i) = .ok i

/-- Rules R50, R54: bits 11:9 of an input word select exactly one of the five operations, for all 4096 words; bit 8 and
bits 7:0 are its operands. -/
def Obligations.InputWordSelectsOneOperation : Prop :=
  ∀ w : InputWord,
    (w &&& 0x800#12 = 0x800#12 → decode (.input w) = .ok .rst) ∧
    (w &&& 0xE00#12 = 0x000#12 → decode (.input w) = .ok (.nop (w.getLsbD 8))) ∧
    (w &&& 0xE00#12 = 0x400#12 → decode (.input w) = .ok (.tick (w.getLsbD 8))) ∧
    (w &&& 0xE00#12 = 0x200#12 → decode (.input w) = .ok (.rx (w.getLsbD 8) (w.extractLsb' 0 8))) ∧
    (w &&& 0xE00#12 = 0x600#12 → decode (.input w) = .ok (.tickrx (w.getLsbD 8) (w.extractLsb' 0 8))) ∧
    (w &&& 0x800#12 = 0x800#12 ∨ w &&& 0xE00#12 = 0x000#12 ∨ w &&& 0xE00#12 = 0x400#12 ∨
      w &&& 0xE00#12 = 0x200#12 ∨ w &&& 0xE00#12 = 0x600#12)

/-- Rules R52, R53: the codes 0 to 18 name the 19 states, one each, and no state has two. That the codes 19 to 31 are
rejected by name is the model's choice (log 4), which takes Q as a type of 19 states; rule R53 gives a bit-level model a move
to IDLE for them. -/
def Obligations.SequencerCodesNameTheStates : Prop :=
  (∀ c : BitVec 5, c.toNat ≤ 18 → ∃ x : SeqState, x.code = c ∧ decode (.seqCode c) = .ok x.instr) ∧
  (∀ c : BitVec 5, 19 ≤ c.toNat → decode (.seqCode c) = .error .codeNamesNoState) ∧
  (∀ x y : SeqState, x.code = y.code → x = y)

/-- Words written out from the encoding tables (30_encoding.md; 95_test_vectors.md V27) decode to what they stand for. That
the code 0b10011 (rule R53) is refused is the model's choice (log 4), and so are the number of bits that tells the four
formats apart (log 8) and byte 0 of a frame as the most significant one (log 7). -/
def Obligations.SampleWordsDecode : Prop :=
  decodeTableWord 16 0x1AB = some (.nop true) ∧ decodeTableWord 16 0x22C = some (.rx false 0x2C#8) ∧
  decodeTableWord 16 0x5FF = some (.tick true) ∧ decodeTableWord 16 0x7FF = some (.tickrx true 0xFF#8) ∧
  decodeTableWord 16 0xA01 = some .rst ∧ decodeTableWord 8 0b01011 = some .gate ∧
  decodeTableWord 8 0b10000 = some .crc4 ∧ decodeTableWord 8 0b10011 = none ∧
  decodeTableWord 64 0x010300000001840A = some .requestFrame ∧ decodeTableWord 64 0x010300000001840B = none ∧
  decodeTableWord 56 0x010302012CB809 = some (.responseFrame 0x01#8 0x2C#8 0xB8#8 0x09#8) ∧
  decodeTableWord 56 0x020302012CFC09 = none

/-- Rule R51: an ignored field has no effect on the next state. No output depends on the input word at all: `outputs` is a
function of the state (rule R25). -/
def Obligations.IgnoredFieldsHaveNoEffect : Prop :=
  ∀ (s : Mbcore) (w v : InputWord),
    (inputRst w = true → inputRst v = true → cycle s w = cycle s v) ∧
    (w &&& 0xF00#12 = v &&& 0xF00#12 → inputRxValid w = false → cycle s w = cycle s v) ∧
    (s.q.txIndex = none → w &&& 0xEFF#12 = v &&& 0xEFF#12 → cycle s w = cycle s v)

/-! ## The machine's step -/

/-- A step runs the instruction it fetches and then the environment moves on: an input word is decoded and run and used
up, where none is given the free word of this count is, and a whole frame is run and used up (the model's choices, logs 1,
2, 6). -/
def Obligations.StepRunsTheFetchedInstruction : Prop :=
  (∀ (s t : State) (w : InputWord) (rest : List Stimulus), s.stimuli = .word w :: rest →
    exec (decodeInput w) s = .next t → step s = .next { t with stimuli := rest }) ∧
  (∀ s t : State, s.stimuli = [] → exec (decodeInput (Config.envInput s.envCycle)) s = .next t →
    step s = .next { t with envCycle := s.envCycle + 1 }) ∧
  (∀ (s t : State) (rest : List Stimulus), s.stimuli = .request :: rest → exec .requestFrame s = .next t →
    step s = .next { t with stimuli := rest }) ∧
  (∀ (s t : State) (h l c d : Byte) (rest : List Stimulus), s.stimuli = .response h l c d :: rest →
    exec (.responseFrame h l c d) s = .next t → step s = .next { t with stimuli := rest })

/-- A table word put where the next step fetches is what that step runs (the model's choice, log 1): an input word as its operation, a code
of Q as the micro-operation of that state in a NOP cycle, a frame as its row. -/
def Obligations.PlacedWordRunsNext : Prop :=
  (∀ (s t : State) (w : InputWord), exec (decodeInput w) s = .next t →
    step (s.withFetchWord 16 w.toNat) = .next t) ∧
  (∀ (s t : State) (x : SeqState), exec (.nop false) { s with q := x } = .next t →
    step (s.withFetchWord 8 x.code.toNat) = .next t) ∧
  (∀ s t : State, exec .requestFrame { s with q := .tx0 } = .next t →
    step (s.withFetchWord 64 0x010300000001840A) = .next t) ∧
  (∀ (s t : State) (h l c d : Byte), exec (.responseFrame h l c d) s = .next t →
    step (s.withFetchWord 56 (makeResponse 0x01#8 0x03#8 0x02#8 h l c d).toNat) = .next t)

/-- A run of steps over given input words is the run of their cycles (rules R41, R130; that the words stand in the state is
the model's choice, log 1). -/
def Obligations.RunOfStepsIsRunOfCycles : Prop :=
  ∀ (ws : List InputWord) (s : State) (rest : List Stimulus), s.stimuli = ws.map .word ++ rest →
    Sys2Proof.core.run ws.length s = .next { s with toMbcore := runWords s.toMbcore ws, stimuli := rest }

/-- Rules R130, R133 to R137: the operation an input word selects does what CYCLE does with that word. -/
def Obligations.CycleIsTheSelectedOperation : Prop :=
  ∀ (s : State) (w : InputWord), exec (decodeInput w) s = .next { s with toMbcore := cycle s.toMbcore w }

/-- Rule R141: MBCORE never halts, every step has a next state; in a quiescent state a NOP changes nothing, and without
a reset only a tick or a byte changes the state. -/
def Obligations.NeverHaltsAndQuiescentStatesStay : Prop :=
  (∀ s : State, ∃ t, step s = .next t) ∧
  (∀ (s : State) (r : Bool), s.quiescent → exec (.nop r) s = .next s) ∧
  (∀ (s : Mbcore) (w : InputWord), s.quiescent → inputRst w = false → cycle s w ≠ s →
    inputTick w = true ∨ inputRxValid w = true)

/-! ## The five operations -/

/-- Rules R137, R165: RESET_STATE. Every register at its reset value whatever else the word says, RXBUF kept, no request
byte transferred, and n reset cycles the same as one. -/
def Obligations.ResetOperation : Prop :=
  (∀ s : State, exec .rst s = .next { s with
      ptc := 0#Config.wPtc, pollFlag := false, rto := 0#Config.wRto, rxCount := 0#Config.wCount, dataAvail := false, crcHi := 0xFF#8,
      crcLo := 0xFF#8, pressure := 0x0000#16, presUpd := false, dir := false, q := .idle }) ∧
  (∀ (s : State) (w : InputWord), w.getLsbD 11 = true → exec .rst s = .next { s with toMbcore := cycle s.toMbcore w } ∧
    s.transfer w = none) ∧
  (∀ (s : State) (w : InputWord) (ws : List InputWord), (∀ v ∈ w :: ws, v.getLsbD 11 = true) →
    exec .rst s = .next { s with toMbcore := runWords s.toMbcore (w :: ws) })

/-- Rule R27: the reset values of the eleven registers. RXBUF, the twelfth, is not written by reset: the statement
ResetOperation says so. -/
def Obligations.ResetStateValues : Prop :=
  State.reset.ptc = 0#Config.wPtc ∧ State.reset.pollFlag = false ∧ State.reset.rto = 0#Config.wRto ∧ State.reset.rxCount = 0#Config.wCount ∧
  State.reset.dataAvail = false ∧ State.reset.crcHi = 0xFF#8 ∧ State.reset.crcLo = 0xFF#8 ∧
  State.reset.pressure = 0x0000#16 ∧ State.reset.presUpd = false ∧ State.reset.dir = false ∧
  State.reset.q = .idle

/-- Rules R131, R133: a NOP performs the one micro-operation that Q selects, with the tx_ready of the cycle, and
tx_ready matters in TX0 to TX7 only. That the micro-operations are instructions of their own, with the tx_ready of the
cycle's word, is the model's choice (log 5). -/
def Obligations.NopPerformsTheSelectedMicroOperation : Prop :=
  ∀ s : State,
    (∃ t, exec (.nop s.txReady) s = .next t ∧ exec s.q.instr s = .next t) ∧
    (s.q.txIndex = none → ∀ r : Bool, ∃ t, exec (.nop r) s = .next t ∧ exec s.q.instr s = .next t)

/-- Rule R134: TICK applies the tick step (rules R81, R97) to the state SEQ leaves, which is the state a NOP leaves. -/
def Obligations.TickAppliesAfterTheSequencer : Prop :=
  ∀ (s : State) (r : Bool), ∃ u, exec (.nop r) s = .next u ∧
    exec (.tick r) s = .next { u with
      ptc := if 100 < u.ptc.toNat + 1 then 0#Config.wPtc else BitVec.ofNat Config.wPtc (u.ptc.toNat + 1)
      pollFlag := decide (100 < u.ptc.toNat + 1) || u.pollFlag
      rto := if u.rto.toNat < 100 then BitVec.ofNat Config.wRto (u.rto.toNat + 1) else u.rto }

/-- Rules R135, R136: RX files the byte (rules R96, R102) in the state a NOP leaves, TICKRX in the state a TICK leaves. -/
def Obligations.ByteIsFiledLast : Prop :=
  ∀ (s : State) (r : Bool) (d : Byte),
    (∃ u t, exec (.nop r) s = .next u ∧ exec (.rx r d) s = .next t ∧ ByteFiled u d t) ∧
    (∃ u t, exec (.tick r) s = .next u ∧ exec (.tickrx r d) s = .next t ∧ ByteFiled u d t)

/-- Rule R138: collisions inside one cycle, and who alone writes the other registers. -/
def Obligations.CollisionsInOneCycle : Prop :=
  ∀ (s : State) (w : InputWord), inputRst w = false →
    (s.q = .txend → inputTick w = true → inputRxValid w = false → (cycle s.toMbcore w).rto = 1#Config.wRto) ∧
    (s.q = .txend → inputRxValid w = true → (cycle s.toMbcore w).rto = 0#Config.wRto) ∧
    (inputTick w = true → inputRxValid w = true → (cycle s.toMbcore w).rto = 0#Config.wRto) ∧
    (s.q = .txend → inputTick w = true → s.ptc = 100#Config.wPtc → (cycle s.toMbcore w).pollFlag = true) ∧
    (s.q = .txend ∨ s.q = .clr → inputRxValid w = true →
      (cycle s.toMbcore w).rxCount = 1#Config.wCount ∧ (cycle s.toMbcore w).buf 0 = inputRxData w) ∧
    (s.q = .clr → inputRxValid w = true → (cycle s.toMbcore w).dataAvail = true) ∧
    (inputRxValid w = false → (cycle s.toMbcore w).rxbuf = s.rxbuf) ∧
    (inputTick w = false → (cycle s.toMbcore w).ptc = s.ptc) ∧
    (∃ u, exec (.nop (inputTxReady w)) s = .next u ∧ (cycle s.toMbcore w).crcHi = u.crcHi ∧
      (cycle s.toMbcore w).crcLo = u.crcLo ∧ (cycle s.toMbcore w).pressure = u.pressure ∧
      (cycle s.toMbcore w).presUpd = u.presUpd ∧ (cycle s.toMbcore w).dir = u.dir ∧ (cycle s.toMbcore w).q = u.q)

/-! ## The send sequence -/

/-- Rule R84: IDLE tests POLL_FLAG first and DATA_AVAIL second; nothing else is written. -/
def Obligations.IdleChooses : Prop :=
  ∀ s : State,
    (s.pollFlag = true → exec .idle s = .next { s with dir := true, q := .tx0 }) ∧
    (s.pollFlag = false → s.dataAvail = true → exec .idle s = .next { s with q := .wait }) ∧
    (s.pollFlag = false → s.dataAvail = false → exec .idle s = .next { s with q := .idle })

/-- Rule R85: TX0 to TX7 advance when the transport is ready, stay otherwise, and write nothing but Q. -/
def Obligations.SendStatesWaitForReady : Prop :=
  ∀ s : State,
    exec .tx0 s = .next { s with q := if s.txReady then .tx1 else .tx0 } ∧
    exec .tx1 s = .next { s with q := if s.txReady then .tx2 else .tx1 } ∧
    exec .tx2 s = .next { s with q := if s.txReady then .tx3 else .tx2 } ∧
    exec .tx3 s = .next { s with q := if s.txReady then .tx4 else .tx3 } ∧
    exec .tx4 s = .next { s with q := if s.txReady then .tx5 else .tx4 } ∧
    exec .tx5 s = .next { s with q := if s.txReady then .tx6 else .tx5 } ∧
    exec .tx6 s = .next { s with q := if s.txReady then .tx7 else .tx6 } ∧
    exec .tx7 s = .next { s with q := if s.txReady then .txend else .tx7 }

/-- Rule R87: TXEND's five writes; DATA_AVAIL, PTC, RXBUF and all else are not touched. -/
def Obligations.TxendClearsBookkeeping : Prop :=
  ∀ s : State, exec .txend s = .next { s with
    dir := false, pollFlag := false, rxCount := 0#Config.wCount, rto := 0#Config.wRto, q := .idle }

/-- Rules R85, R86: from TX0 the bytes transferred are REQ[0], REQ[1], ... in order, each once, one for each ready cycle,
whatever ticks and bytes arrive meanwhile. -/
def Obligations.RequestBytesGoOutInOrder : Prop :=
  ∀ (s : Mbcore) (ws : List InputWord), s.q = .tx0 → noReset ws → readyCount ws ≤ 8 →
    transfers s ws = [0x01#8, 0x03#8, 0x00#8, 0x00#8, 0x00#8, 0x01#8, 0x84#8, 0x0A#8].take (readyCount ws)

/-- The row REQUEST_FRAME (rule R46): in every state it is eight ready cycles (the model's choice, log 6); from Q = TX0 the
eight constant bytes are transferred, byte 0 first, Q ends at TXEND and nothing else changes. -/
def Obligations.RequestFrameIsSent : Prop :=
  (∀ s : State, exec .requestFrame s = .next { s with toMbcore := runWords s.toMbcore (List.replicate 8 0x100#12) }) ∧
  (∀ s : State, s.q = .tx0 → exec .requestFrame s = .next { s with q := .txend } ∧
    transfers s.toMbcore (List.replicate 8 0x100#12) =
      [0x01#8, 0x03#8, 0x00#8, 0x00#8, 0x00#8, 0x01#8, 0x84#8, 0x0A#8])

/-- Rule R174: with tx_ready 0 for ever the sequencer stays in TXi; DIR, PRESSURE and a set POLL_FLAG stay. -/
def Obligations.SendHangsWithoutReady : Prop :=
  ∀ (s : Mbcore) (ws : List InputWord), s.q.txIndex.isSome = true → noReset ws → readyCount ws = 0 →
    (runWords s ws).q = s.q ∧ (runWords s ws).dir = s.dir ∧ (runWords s ws).pressure = s.pressure ∧
      (s.pollFlag = true → (runWords s ws).pollFlag = true)

/-- Rule R83: PTC counts ticks modulo 101, whatever else happens; the flag is set by the tick that finds PTC at 100. -/
def Obligations.PollCounterCountsModulo101 : Prop :=
  ∀ (s : Mbcore) (ws : List InputWord), s.ptc.toNat ≤ 100 → noReset ws →
    (runWords s ws).ptc.toNat = (s.ptc.toNat + tickCount ws) % 101 ∧
    (∀ w : InputWord, inputRst w = false → inputTick w = true → (runWords s ws).ptc = 100#Config.wPtc →
      (cycle (runWords s ws) w).pollFlag = true)

/-! ## The receiver -/

/-- Rule R100: WAIT ends when RX_COUNT > 7 or RTO >= 10, tested on the values at the start of the cycle. -/
def Obligations.WaitExitCondition : Prop :=
  (∀ s : State, (7 < s.rxCount.toNat ∨ 10 ≤ s.rto.toNat) → exec .wait s = .next { s with q := .gate }) ∧
  (∀ s : State, ¬ (7 < s.rxCount.toNat ∨ 10 ≤ s.rto.toNat) → exec .wait s = .next { s with q := .wait }) ∧
  (∀ (s : Mbcore) (w : InputWord), s.q = .wait → inputRst w = false →
    ((cycle s w).q = .gate ↔ (7 < s.rxCount.toNat ∨ 10 ≤ s.rto.toNat)) ∧
    ((cycle s w).q = .wait ↔ ¬ (7 < s.rxCount.toNat ∨ 10 ≤ s.rto.toNat)))

/-- Rules R14, R33: a buffer byte changes only when a byte arrives, only at the current count position, and then it is
that byte; the count position is 0 where the sequencer has just zeroed it. -/
def Obligations.BufferWrittenOnlyAtCount : Prop :=
  ∀ (s : Mbcore) (w : InputWord) (i : BufIndex), (cycle s w).buf i ≠ s.buf i →
    inputRst w = false ∧ inputRxValid w = true ∧ (cycle s w).buf i = inputRxData w ∧
      i.val = if s.q = .txend ∨ s.q = .clr then 0 else s.rxCount.toNat

/-- The row RESPONSE_FRAME (rule R48): in every state it is seven received bytes, one a cycle (the model's choice, log 6);
from IDLE with no poll pending and nothing counted the bytes stand at indices 0 to 6 in arrival order and the sequencer
waits. -/
def Obligations.ResponseFrameIsReceived : Prop :=
  (∀ (s : State) (h l c d : Byte), exec (.responseFrame h l c d) s = .next { s with
    toMbcore := runWords s.toMbcore
      [0x201#12, 0x203#12, 0x202#12, 0x200#12 ||| h.setWidth 12, 0x200#12 ||| l.setWidth 12,
        0x200#12 ||| c.setWidth 12, 0x200#12 ||| d.setWidth 12] }) ∧
  (∀ (s : State) (h l c d : Byte), s.q = .idle → s.pollFlag = false → s.rxCount = 0#Config.wCount →
    ∃ t, exec (.responseFrame h l c d) s = .next t ∧
      t = { s with q := .wait, rxCount := 7#Config.wCount, rto := 0#Config.wRto, dataAvail := true, rxbuf := t.rxbuf } ∧
      t.buf 0 = 0x01#8 ∧ t.buf 1 = 0x03#8 ∧ t.buf 2 = 0x02#8 ∧ t.buf 3 = h ∧ t.buf 4 = l ∧ t.buf 5 = c ∧
      t.buf 6 = d ∧ t.buf 7 = s.buf 7 ∧ t.buf 8 = s.buf 8)

/-- Rule R175: with no tick and at most seven bytes the wait does not end, and no poll is served. -/
def Obligations.WaitHangsWithoutTicks : Prop :=
  ∀ (s : Mbcore) (ws : List InputWord), s.q = .wait → s.rto.toNat < 10 → noReset ws → tickCount ws = 0 →
    s.rxCount.toNat + byteCountOf ws ≤ 7 →
    (runWords s ws).q = .wait ∧ (runWords s ws).pollFlag = s.pollFlag

/-- Rule R107: with no byte arriving, the wait ends no later than the cycle after ten ticks. -/
def Obligations.WaitEndsAfterTenTicks : Prop :=
  ∀ (s : Mbcore) (ws : List InputWord) (w : InputWord), s.q = .wait → noReset (ws ++ [w]) → byteCountOf ws = 0 →
    10 ≤ tickCount ws → ∃ n ≤ ws.length + 1, (runWords s ((ws ++ [w]).take n)).q = .gate

/-! ## The CRC engine -/

/-- Rule R66: the two printed tables are the two halves of TGEN, eight shift-and-conditional-xor steps with 0xA001. -/
def Obligations.PrintedTablesAreTheGenerator : Prop :=
  ∀ i : Byte,
    tgen i = (fun c : Word16 => if c.getLsbD 0 then (c >>> 1) ^^^ 0xA001#16 else c >>> 1)^[8] (i.setWidth 16) ∧
    tabLo i = (tgen i).extractLsb' 0 8 ∧ tabHi i = (tgen i).extractLsb' 8 8

/-- 95_test_vectors.md V10: TGEN is linear over exclusive-or. -/
def Obligations.GeneratorIsLinear : Prop := ∀ a b : Byte, tgen (a ^^^ b) = tgen a ^^^ tgen b

/-- Rule R71: the table form of CRC_BYTE equals both definitions without tables, for every register content and byte. -/
def Obligations.CrcByteIsBitSerial : Prop :=
  ∀ (p : CrcPair) (b : Byte),
    (crcByte p b).value =
      (fun c : Word16 => if c.getLsbD 0 then (c >>> 1) ^^^ 0xA001#16 else c >>> 1)^[8] (p.value ^^^ b.setWidth 16) ∧
    (crcByte p b).value = (p.value >>> 8) ^^^ tgen (p.value.extractLsb' 0 8 ^^^ b) ∧
    (crcByte p b).hi = (crcByte p b).value.extractLsb' 8 8 ∧ (crcByte p b).lo = (crcByte p b).value.extractLsb' 0 8

/-- Rule R79: the corner cases of CRC16. -/
def Obligations.Crc16CornerCases : Prop :=
  crc16 [] = 0xFFFF#16 ∧ crc16 [0x00#8] = 0x40BF#16 ∧ crc16 [0xFF#8] = 0x00FF#16 ∧
  crc16 [0xFF#8, 0xFF#8] = 0x0000#16 ∧ crc16 [0x00#8, 0x00#8, 0x00#8, 0x00#8, 0x00#8] = 0x0024#16 ∧
  crc16 [0xFF#8, 0xFF#8, 0xFF#8, 0xFF#8, 0xFF#8] = 0x8031#16 ∧
  crc16 [0x31#8, 0x32#8, 0x33#8, 0x34#8, 0x35#8, 0x36#8, 0x37#8, 0x38#8, 0x39#8] = 0x4B37#16

/-- Rule R76 (a): CRC16 of a bytewise exclusive-or. -/
def Obligations.Crc16IsAffine : Prop :=
  ∀ m e : List Byte, m.length = e.length →
    crc16 (List.zipWith (fun a b => a ^^^ b) m e) = crc16 m ^^^ crc16z e

/-- Rule R76 (b): flipping exactly one of the 56 bits of a seven-byte frame whose check holds makes the check fail. -/
def Obligations.EverySingleBitFlipIsCaught : Prop :=
  ∀ (frame : List Byte) (i j : Nat), frame.length = 7 → frameChecks frame → i < 7 → j < 8 →
    ¬ frameChecks (flipBit frame i j)

/-- Rule R76 (c): with the two checksum bytes appended low byte first, CRC16 over the whole is 0. -/
def Obligations.ResidueIsZero : Prop :=
  ∀ m : List Byte, crc16 (m ++ [(crc16 m).extractLsb' 0 8, (crc16 m).extractLsb' 8 8]) = 0x0000#16

/-! ## The validator -/

/-- Rule R111: GATE. The count first, then the three header bytes; only where all pass are the CRC registers written. -/
def Obligations.GateChecksCountAndHeader : Prop :=
  ∀ s : State,
    ((7 ≤ s.rxCount.toNat ∧ s.buf 0 = 0x01#8 ∧ s.buf 1 = 0x03#8 ∧ s.buf 2 = 0x02#8) →
      exec .gate s = .next { s with crcHi := 0xFF#8, crcLo := 0xFF#8, q := .crc0 } ∧ s.gateVerdict = none) ∧
    (¬ (7 ≤ s.rxCount.toNat ∧ s.buf 0 = 0x01#8 ∧ s.buf 1 = 0x03#8 ∧ s.buf 2 = 0x02#8) →
      exec .gate s = .next { s with q := .clr } ∧
      s.gateVerdict = some (if s.rxCount.toNat < 7 then .short else .badHeader))

/-- Rule R114: CRC0 to CRC4 perform CRC_BYTE on RXBUF[0] to RXBUF[4] and move on. -/
def Obligations.CrcStatesTakeInTheirByte : Prop :=
  ∀ s : State,
    exec .crc0 s = .next { s with crcHi := tabHi (s.crcLo ^^^ s.buf 0), crcLo := s.crcHi ^^^ tabLo (s.crcLo ^^^ s.buf 0), q := .crc1 } ∧
    exec .crc1 s = .next { s with crcHi := tabHi (s.crcLo ^^^ s.buf 1), crcLo := s.crcHi ^^^ tabLo (s.crcLo ^^^ s.buf 1), q := .crc2 } ∧
    exec .crc2 s = .next { s with crcHi := tabHi (s.crcLo ^^^ s.buf 2), crcLo := s.crcHi ^^^ tabLo (s.crcLo ^^^ s.buf 2), q := .crc3 } ∧
    exec .crc3 s = .next { s with crcHi := tabHi (s.crcLo ^^^ s.buf 3), crcLo := s.crcHi ^^^ tabLo (s.crcLo ^^^ s.buf 3), q := .crc4 } ∧
    exec .crc4 s = .next { s with crcHi := tabHi (s.crcLo ^^^ s.buf 4), crcLo := s.crcHi ^^^ tabLo (s.crcLo ^^^ s.buf 4), q := .cmp }

/-- Rule R118: CMP compares all 16 bits and latches the pressure on a match. -/
def Obligations.CmpLatchesPressureOnMatch : Prop :=
  ∀ s : State,
    (s.crcHi.toNat * 256 + s.crcLo.toNat = (s.buf 5).toNat + 256 * (s.buf 6).toNat →
      exec .cmp s = .next { s with
        pressure := BitVec.ofNat 16 ((s.buf 3).toNat * 256 + (s.buf 4).toNat), presUpd := true, q := .clr } ∧
      s.cmpVerdict = .ok) ∧
    (s.crcHi.toNat * 256 + s.crcLo.toNat ≠ (s.buf 5).toNat + 256 * (s.buf 6).toNat →
      exec .cmp s = .next { s with q := .clr } ∧ s.cmpVerdict = .badCrc)

/-- Rule R120: CLR's writes; RTO, RXBUF, PRESSURE, the CRC registers and all else are not touched. -/
def Obligations.ClrResetsTheReceiveState : Prop :=
  ∀ s : State, exec .clr s = .next { s with dataAvail := false, rxCount := 0#Config.wCount, presUpd := false, q := .idle }

/-- Rules R119, R123: from GATE, whatever ticks and bytes arrive, a frame that is VALID at GATE is decoded:
after the seven cycles GATE, CRC0 to CRC4, CMP the state is CLR with the frame's PRESSURE and the pulse raised. Any other
frame leaves PRESSURE and the pulse as they were. -/
def Obligations.ValidFramesAndOnlyTheyDecode : Prop :=
  ∀ (s : Mbcore) (ws : List InputWord), s.q = .gate → s.presUpd = false → noReset ws → ws.length = 7 →
    (s.validFrame → (runWords s ws).q = .clr ∧ (runWords s ws).presUpd = true ∧
      (runWords s ws).pressure = s.framePressure) ∧
    (¬ s.validFrame → (runWords s ws).presUpd = false ∧ (runWords s ws).pressure = s.pressure)

/-- Rule R119, last sentence: for each value of the two data bytes exactly one pair of checksum bytes makes the
response frame valid. -/
def Obligations.EachPressureHasOneValidFrame : Prop :=
  ∀ h l : Byte, ∃! p : Byte × Byte, (Instr.responseFrame h l p.1 p.2).wellFormed = true

/-- Rules R18, R124: PRESSURE changes only by reset, or in CMP on a match, as a whole, to the frame's value, with the
pulse raised. -/
def Obligations.PressureChangesOnlyOnMatch : Prop :=
  ∀ (s : Mbcore) (w : InputWord), (cycle s w).pressure ≠ s.pressure →
    inputRst w = true ∨
      (s.q = .cmp ∧ s.crcPair.value = s.frameChecksum ∧ (cycle s w).pressure = s.framePressure ∧
        (cycle s w).presUpd = true)

/-- Rules R112, R118: no display update without a frame whose count, header and checksum are all right. -/
def Obligations.NoDisplayUpdateWithoutValidFrame : Prop :=
  ∀ (s : Mbcore) (w : InputWord), s.ValidationHolds → s.presUpd = false → (cycle s w).presUpd = true →
    s.q = .cmp ∧ s.validFrame ∧ (cycle s w).pressure = s.framePressure

/-! ## Outputs -/

/-- Rule R25: the outputs as functions of the state. -/
def Obligations.OutputsFollowTheState : Prop :=
  ∀ s : Mbcore,
    (s.outputs.txValid = true ↔ s.q ∈ [SeqState.tx0, .tx1, .tx2, .tx3, .tx4, .tx5, .tx6, .tx7]) ∧
    (∀ i : Fin 8, s.q.code.toNat = i.val + 1 → s.outputs.txData = reqByte i) ∧
    (s.outputs.txValid = false → s.outputs.txData = 0x00#8) ∧
    s.outputs.dir = s.dir ∧ s.outputs.pres = s.pressure ∧ s.outputs.presUpd = s.presUpd ∧
    s.outputs.pollFlag = s.pollFlag ∧ s.outputs.dataAvail = s.dataAvail ∧ s.outputs.rxCount = s.rxCount ∧
    s.outputs.crcOut.toNat = s.crcHi.toNat * 256 + s.crcLo.toNat ∧ s.outputs.q = s.q.code ∧
    (∀ j : Fin 5, s.outputs.dispChars[j.val]? = some (dispChar s.pressure j.val))

/-- Rule R121: the five digits are those of PRESSURE, leading zeros included, and the characters are their codes (the
character set is the spec's general knowledge: rule R58, log 11). -/
def Obligations.DigitsSpellThePressure : Prop :=
  ∀ p : Word16,
    digit p 4 * 10000 + digit p 3 * 1000 + digit p 2 * 100 + digit p 1 * 10 + digit p 0 = p.toNat ∧
    (∀ k, digit p k ≤ 9) ∧ digit p 4 ≤ 6 ∧
    (∀ j, j ≤ 4 → (dispChar p j).toNat = 0x30 + digit p (4 - j))

/-! ## Invariants and rules of the whole machine -/

/-- Every invariant holds of MBCORE right after reset, whatever the environment will apply. -/
def Obligations.ResetMeetsTheInvariants : Prop :=
  ∀ s : State, s.toMbcore = State.reset.toMbcore →
    s.RangesHold ∧ s.BufferHolds ∧ s.ValidationHolds ∧ s.FlagsHold

/-- Rule R28: the ranges of PTC, RTO and RX_COUNT, DIR exactly in the send states, PRES_UPD only in CLR; every step
keeps them. -/
def Obligations.StepKeepsTheRanges : Prop :=
  ∀ s t : State, s.RangesHold → step s = .next t → t.RangesHold

/-- Rules R13, R168: the buffer keeps its canonical form and every byte below RX_COUNT has been written. -/
def Obligations.StepKeepsTheBufferFilled : Prop :=
  ∀ s t : State, s.BufferHolds → step s = .next t → t.BufferHolds

/-- Rules R115, R116: while a validation runs, the count and header that passed GATE stand and the CRC registers hold
CRC16 of the bytes taken in so far. -/
def Obligations.StepKeepsTheValidation : Prop :=
  ∀ s t : State, s.ValidationHolds → step s = .next t → t.ValidationHolds

/-- Rules R11, R15, R84, R87, R120: POLL_FLAG stands through the send sequence; DATA_AVAIL stands from WAIT to CLR and
whenever bytes are counted. -/
def Obligations.StepKeepsTheFlags : Prop :=
  ∀ s t : State, s.FlagsHold → step s = .next t → t.FlagsHold

/-- Rules R125, R168: no result depends on a buffer byte that was not received since RX_COUNT was last zero. Two states of
MBCORE that differ only there, in one environment, step to two such states, with the same outputs. -/
def Obligations.StaleBytesNeverMatter : Prop :=
  ∀ s t : State, (∀ k, s.q.crcDone = some k → 7 ≤ s.rxCount.toNat) → s.toEnvironment = t.toEnvironment →
    s.toMbcore.AgreeOnFresh t.toMbcore →
    ∃ s' t', step s = .next s' ∧ step t = .next t' ∧ s'.toEnvironment = t'.toEnvironment ∧
      s'.toMbcore.AgreeOnFresh t'.toMbcore ∧ s'.outputs = t'.outputs

/-- Rule R132: the transitions of Q in a cycle without reset, and no others. -/
def Obligations.TransitionsOfQ : Prop :=
  ∀ (s : Mbcore) (w : InputWord), inputRst w = false →
    (cycle s w).q =
      match s.q with
      | .idle => if s.pollFlag then .tx0 else if s.dataAvail then .wait else .idle
      | .tx0 => if inputTxReady w then .tx1 else .tx0
      | .tx1 => if inputTxReady w then .tx2 else .tx1
      | .tx2 => if inputTxReady w then .tx3 else .tx2
      | .tx3 => if inputTxReady w then .tx4 else .tx3
      | .tx4 => if inputTxReady w then .tx5 else .tx4
      | .tx5 => if inputTxReady w then .tx6 else .tx5
      | .tx6 => if inputTxReady w then .tx7 else .tx6
      | .tx7 => if inputTxReady w then .txend else .tx7
      | .txend => .idle
      | .wait => if 7 < s.rxCount.toNat ∨ 10 ≤ s.rto.toNat then .gate else .wait
      | .gate =>
        if 7 ≤ s.rxCount.toNat ∧ s.buf 0 = 0x01#8 ∧ s.buf 1 = 0x03#8 ∧ s.buf 2 = 0x02#8 then .crc0 else .clr
      | .crc0 => .crc1
      | .crc1 => .crc2
      | .crc2 => .crc3
      | .crc3 => .crc4
      | .crc4 => .cmp
      | .cmp => .clr
      | .clr => .idle

/-- Rule R42: DIR falls only by TXEND (or reset), TXEND is reached only when the transport completes REQ[7], and GATE only
from WAIT through its exit condition. -/
def Obligations.SendAndDecodeAreSerialised : Prop :=
  ∀ (s : Mbcore) (w : InputWord),
    (s.dir = true → (cycle s w).dir = false → inputRst w = true ∨ s.q = .txend) ∧
    ((cycle s w).q = .txend → s.q = .tx7 ∧ s.transfer w = some 0x0A#8) ∧
    ((cycle s w).q = .gate → s.q = .wait ∧ (7 < s.rxCount.toNat ∨ 10 ≤ s.rto.toNat))

/-- Rules R26, R29: the input words are no state of MBCORE. No instruction touches the environment, and what an instruction
makes of the twelve elements depends on those elements, the instruction and the tx_ready of the cycle alone. That the words to
come stand beside MBCORE in a run's state is the model's choice (log 1). -/
def Obligations.EnvironmentIsNotState : Prop :=
  (∀ (i : Instr) (s : State), ∃ t, exec i s = .next t ∧ t.toEnvironment = s.toEnvironment) ∧
  (∀ (i : Instr) (s s' t t' : State), s.toMbcore = s'.toMbcore → s.txReady = s'.txReady → exec i s = .next t →
    exec i s' = .next t' → t.toMbcore = t'.toMbcore)

/-! ## The looser model -/

/-- Rule R140: every run of MBCORE is a run of the looser model (a reset among its steps only where a word resets: log 13),
and a property that every atomic step keeps holds along every run of MBCORE. -/
def Obligations.EveryRunIsALooserRun : Prop :=
  (∀ (s : Mbcore) (ws : List InputWord), runWords s ws = runAgents s (ws.flatMap cycleAgents)) ∧
  (∀ ws : List InputWord, noReset ws → AgentStep.reset ∉ ws.flatMap cycleAgents) ∧
  (∀ P : Mbcore → Prop, (∀ (s : Mbcore) (a : AgentStep), P s → P (a.apply s)) →
    ∀ (s : Mbcore) (ws : List InputWord), P s → P (runWords s ws))

/-- Rule R140, last sentence: the writes of TXEND and of CLR are single atomic steps, in the looser model as in MBCORE. -/
def Obligations.TxendAndClrAreSingleSteps : Prop :=
  ∀ (s : Mbcore) (r : Bool),
    (s.q = .txend → (AgentStep.seq r).apply s =
      { s with dir := false, pollFlag := false, rxCount := 0#Config.wCount, rto := 0#Config.wRto, q := .idle }) ∧
    (s.q = .clr → (AgentStep.seq r).apply s =
      { s with dataAvail := false, rxCount := 0#Config.wCount, presUpd := false, q := .idle }) ∧
    (∀ w : InputWord, inputRst w = false → inputTick w = false → inputRxValid w = false →
      cycle s w = (AgentStep.seq (inputTxReady w)).apply s)
end

