-- ==== Sys2Proof/Laws/State.lean ====
section
/-! SUPPORT. One lemma per field per write of a register of MBCORE, and the same of the two parts of a run's state (all by
rfl). -/

namespace Sys2Proof.Machine

/-- The widths of rule R5 as powers of two, for arithmetic on the counters' values. -/
@[simp] theorem two_pow_wPtc : 2 ^ Config.wPtc = 128 := rfl
@[simp] theorem two_pow_wRto : 2 ^ Config.wRto = 128 := rfl
@[simp] theorem two_pow_wCount : 2 ^ Config.wCount = 16 := rfl
@[simp] theorem two_pow_wQ : 2 ^ Config.wQ = 32 := rfl

@[simp] theorem Mbcore.setPtc_ptc (s : Mbcore) (v : BitVec Config.wPtc) : (s.setPtc v).ptc = v := rfl
@[simp] theorem Mbcore.setPtc_pollFlag (s : Mbcore) (v : BitVec Config.wPtc) : (s.setPtc v).pollFlag = s.pollFlag := rfl
@[simp] theorem Mbcore.setPtc_rto (s : Mbcore) (v : BitVec Config.wPtc) : (s.setPtc v).rto = s.rto := rfl
@[simp] theorem Mbcore.setPtc_rxCount (s : Mbcore) (v : BitVec Config.wPtc) : (s.setPtc v).rxCount = s.rxCount := rfl
@[simp] theorem Mbcore.setPtc_rxbuf (s : Mbcore) (v : BitVec Config.wPtc) : (s.setPtc v).rxbuf = s.rxbuf := rfl
@[simp] theorem Mbcore.setPtc_dataAvail (s : Mbcore) (v : BitVec Config.wPtc) : (s.setPtc v).dataAvail = s.dataAvail := rfl
@[simp] theorem Mbcore.setPtc_crcHi (s : Mbcore) (v : BitVec Config.wPtc) : (s.setPtc v).crcHi = s.crcHi := rfl
@[simp] theorem Mbcore.setPtc_crcLo (s : Mbcore) (v : BitVec Config.wPtc) : (s.setPtc v).crcLo = s.crcLo := rfl
@[simp] theorem Mbcore.setPtc_pressure (s : Mbcore) (v : BitVec Config.wPtc) : (s.setPtc v).pressure = s.pressure := rfl
@[simp] theorem Mbcore.setPtc_presUpd (s : Mbcore) (v : BitVec Config.wPtc) : (s.setPtc v).presUpd = s.presUpd := rfl
@[simp] theorem Mbcore.setPtc_dir (s : Mbcore) (v : BitVec Config.wPtc) : (s.setPtc v).dir = s.dir := rfl
@[simp] theorem Mbcore.setPtc_q (s : Mbcore) (v : BitVec Config.wPtc) : (s.setPtc v).q = s.q := rfl

@[simp] theorem Mbcore.setPollFlag_ptc (s : Mbcore) (v : Bool) : (s.setPollFlag v).ptc = s.ptc := rfl
@[simp] theorem Mbcore.setPollFlag_pollFlag (s : Mbcore) (v : Bool) : (s.setPollFlag v).pollFlag = v := rfl
@[simp] theorem Mbcore.setPollFlag_rto (s : Mbcore) (v : Bool) : (s.setPollFlag v).rto = s.rto := rfl
@[simp] theorem Mbcore.setPollFlag_rxCount (s : Mbcore) (v : Bool) : (s.setPollFlag v).rxCount = s.rxCount := rfl
@[simp] theorem Mbcore.setPollFlag_rxbuf (s : Mbcore) (v : Bool) : (s.setPollFlag v).rxbuf = s.rxbuf := rfl
@[simp] theorem Mbcore.setPollFlag_dataAvail (s : Mbcore) (v : Bool) : (s.setPollFlag v).dataAvail = s.dataAvail := rfl
@[simp] theorem Mbcore.setPollFlag_crcHi (s : Mbcore) (v : Bool) : (s.setPollFlag v).crcHi = s.crcHi := rfl
@[simp] theorem Mbcore.setPollFlag_crcLo (s : Mbcore) (v : Bool) : (s.setPollFlag v).crcLo = s.crcLo := rfl
@[simp] theorem Mbcore.setPollFlag_pressure (s : Mbcore) (v : Bool) : (s.setPollFlag v).pressure = s.pressure := rfl
@[simp] theorem Mbcore.setPollFlag_presUpd (s : Mbcore) (v : Bool) : (s.setPollFlag v).presUpd = s.presUpd := rfl
@[simp] theorem Mbcore.setPollFlag_dir (s : Mbcore) (v : Bool) : (s.setPollFlag v).dir = s.dir := rfl
@[simp] theorem Mbcore.setPollFlag_q (s : Mbcore) (v : Bool) : (s.setPollFlag v).q = s.q := rfl

@[simp] theorem Mbcore.setRto_ptc (s : Mbcore) (v : BitVec Config.wRto) : (s.setRto v).ptc = s.ptc := rfl
@[simp] theorem Mbcore.setRto_pollFlag (s : Mbcore) (v : BitVec Config.wRto) : (s.setRto v).pollFlag = s.pollFlag := rfl
@[simp] theorem Mbcore.setRto_rto (s : Mbcore) (v : BitVec Config.wRto) : (s.setRto v).rto = v := rfl
@[simp] theorem Mbcore.setRto_rxCount (s : Mbcore) (v : BitVec Config.wRto) : (s.setRto v).rxCount = s.rxCount := rfl
@[simp] theorem Mbcore.setRto_rxbuf (s : Mbcore) (v : BitVec Config.wRto) : (s.setRto v).rxbuf = s.rxbuf := rfl
@[simp] theorem Mbcore.setRto_dataAvail (s : Mbcore) (v : BitVec Config.wRto) : (s.setRto v).dataAvail = s.dataAvail := rfl
@[simp] theorem Mbcore.setRto_crcHi (s : Mbcore) (v : BitVec Config.wRto) : (s.setRto v).crcHi = s.crcHi := rfl
@[simp] theorem Mbcore.setRto_crcLo (s : Mbcore) (v : BitVec Config.wRto) : (s.setRto v).crcLo = s.crcLo := rfl
@[simp] theorem Mbcore.setRto_pressure (s : Mbcore) (v : BitVec Config.wRto) : (s.setRto v).pressure = s.pressure := rfl
@[simp] theorem Mbcore.setRto_presUpd (s : Mbcore) (v : BitVec Config.wRto) : (s.setRto v).presUpd = s.presUpd := rfl
@[simp] theorem Mbcore.setRto_dir (s : Mbcore) (v : BitVec Config.wRto) : (s.setRto v).dir = s.dir := rfl
@[simp] theorem Mbcore.setRto_q (s : Mbcore) (v : BitVec Config.wRto) : (s.setRto v).q = s.q := rfl

@[simp] theorem Mbcore.setRxCount_ptc (s : Mbcore) (v : BitVec Config.wCount) : (s.setRxCount v).ptc = s.ptc := rfl
@[simp] theorem Mbcore.setRxCount_pollFlag (s : Mbcore) (v : BitVec Config.wCount) : (s.setRxCount v).pollFlag = s.pollFlag := rfl
@[simp] theorem Mbcore.setRxCount_rto (s : Mbcore) (v : BitVec Config.wCount) : (s.setRxCount v).rto = s.rto := rfl
@[simp] theorem Mbcore.setRxCount_rxCount (s : Mbcore) (v : BitVec Config.wCount) : (s.setRxCount v).rxCount = v := rfl
@[simp] theorem Mbcore.setRxCount_rxbuf (s : Mbcore) (v : BitVec Config.wCount) : (s.setRxCount v).rxbuf = s.rxbuf := rfl
@[simp] theorem Mbcore.setRxCount_dataAvail (s : Mbcore) (v : BitVec Config.wCount) : (s.setRxCount v).dataAvail = s.dataAvail := rfl
@[simp] theorem Mbcore.setRxCount_crcHi (s : Mbcore) (v : BitVec Config.wCount) : (s.setRxCount v).crcHi = s.crcHi := rfl
@[simp] theorem Mbcore.setRxCount_crcLo (s : Mbcore) (v : BitVec Config.wCount) : (s.setRxCount v).crcLo = s.crcLo := rfl
@[simp] theorem Mbcore.setRxCount_pressure (s : Mbcore) (v : BitVec Config.wCount) : (s.setRxCount v).pressure = s.pressure := rfl
@[simp] theorem Mbcore.setRxCount_presUpd (s : Mbcore) (v : BitVec Config.wCount) : (s.setRxCount v).presUpd = s.presUpd := rfl
@[simp] theorem Mbcore.setRxCount_dir (s : Mbcore) (v : BitVec Config.wCount) : (s.setRxCount v).dir = s.dir := rfl
@[simp] theorem Mbcore.setRxCount_q (s : Mbcore) (v : BitVec Config.wCount) : (s.setRxCount v).q = s.q := rfl

@[simp] theorem Mbcore.setRxbuf_ptc (s : Mbcore) (v : Memory) : (s.setRxbuf v).ptc = s.ptc := rfl
@[simp] theorem Mbcore.setRxbuf_pollFlag (s : Mbcore) (v : Memory) : (s.setRxbuf v).pollFlag = s.pollFlag := rfl
@[simp] theorem Mbcore.setRxbuf_rto (s : Mbcore) (v : Memory) : (s.setRxbuf v).rto = s.rto := rfl
@[simp] theorem Mbcore.setRxbuf_rxCount (s : Mbcore) (v : Memory) : (s.setRxbuf v).rxCount = s.rxCount := rfl
@[simp] theorem Mbcore.setRxbuf_rxbuf (s : Mbcore) (v : Memory) : (s.setRxbuf v).rxbuf = v := rfl
@[simp] theorem Mbcore.setRxbuf_dataAvail (s : Mbcore) (v : Memory) : (s.setRxbuf v).dataAvail = s.dataAvail := rfl
@[simp] theorem Mbcore.setRxbuf_crcHi (s : Mbcore) (v : Memory) : (s.setRxbuf v).crcHi = s.crcHi := rfl
@[simp] theorem Mbcore.setRxbuf_crcLo (s : Mbcore) (v : Memory) : (s.setRxbuf v).crcLo = s.crcLo := rfl
@[simp] theorem Mbcore.setRxbuf_pressure (s : Mbcore) (v : Memory) : (s.setRxbuf v).pressure = s.pressure := rfl
@[simp] theorem Mbcore.setRxbuf_presUpd (s : Mbcore) (v : Memory) : (s.setRxbuf v).presUpd = s.presUpd := rfl
@[simp] theorem Mbcore.setRxbuf_dir (s : Mbcore) (v : Memory) : (s.setRxbuf v).dir = s.dir := rfl
@[simp] theorem Mbcore.setRxbuf_q (s : Mbcore) (v : Memory) : (s.setRxbuf v).q = s.q := rfl

@[simp] theorem Mbcore.setDataAvail_ptc (s : Mbcore) (v : Bool) : (s.setDataAvail v).ptc = s.ptc := rfl
@[simp] theorem Mbcore.setDataAvail_pollFlag (s : Mbcore) (v : Bool) : (s.setDataAvail v).pollFlag = s.pollFlag := rfl
@[simp] theorem Mbcore.setDataAvail_rto (s : Mbcore) (v : Bool) : (s.setDataAvail v).rto = s.rto := rfl
@[simp] theorem Mbcore.setDataAvail_rxCount (s : Mbcore) (v : Bool) : (s.setDataAvail v).rxCount = s.rxCount := rfl
@[simp] theorem Mbcore.setDataAvail_rxbuf (s : Mbcore) (v : Bool) : (s.setDataAvail v).rxbuf = s.rxbuf := rfl
@[simp] theorem Mbcore.setDataAvail_dataAvail (s : Mbcore) (v : Bool) : (s.setDataAvail v).dataAvail = v := rfl
@[simp] theorem Mbcore.setDataAvail_crcHi (s : Mbcore) (v : Bool) : (s.setDataAvail v).crcHi = s.crcHi := rfl
@[simp] theorem Mbcore.setDataAvail_crcLo (s : Mbcore) (v : Bool) : (s.setDataAvail v).crcLo = s.crcLo := rfl
@[simp] theorem Mbcore.setDataAvail_pressure (s : Mbcore) (v : Bool) : (s.setDataAvail v).pressure = s.pressure := rfl
@[simp] theorem Mbcore.setDataAvail_presUpd (s : Mbcore) (v : Bool) : (s.setDataAvail v).presUpd = s.presUpd := rfl
@[simp] theorem Mbcore.setDataAvail_dir (s : Mbcore) (v : Bool) : (s.setDataAvail v).dir = s.dir := rfl
@[simp] theorem Mbcore.setDataAvail_q (s : Mbcore) (v : Bool) : (s.setDataAvail v).q = s.q := rfl

@[simp] theorem Mbcore.setCrcHi_ptc (s : Mbcore) (v : Byte) : (s.setCrcHi v).ptc = s.ptc := rfl
@[simp] theorem Mbcore.setCrcHi_pollFlag (s : Mbcore) (v : Byte) : (s.setCrcHi v).pollFlag = s.pollFlag := rfl
@[simp] theorem Mbcore.setCrcHi_rto (s : Mbcore) (v : Byte) : (s.setCrcHi v).rto = s.rto := rfl
@[simp] theorem Mbcore.setCrcHi_rxCount (s : Mbcore) (v : Byte) : (s.setCrcHi v).rxCount = s.rxCount := rfl
@[simp] theorem Mbcore.setCrcHi_rxbuf (s : Mbcore) (v : Byte) : (s.setCrcHi v).rxbuf = s.rxbuf := rfl
@[simp] theorem Mbcore.setCrcHi_dataAvail (s : Mbcore) (v : Byte) : (s.setCrcHi v).dataAvail = s.dataAvail := rfl
@[simp] theorem Mbcore.setCrcHi_crcHi (s : Mbcore) (v : Byte) : (s.setCrcHi v).crcHi = v := rfl
@[simp] theorem Mbcore.setCrcHi_crcLo (s : Mbcore) (v : Byte) : (s.setCrcHi v).crcLo = s.crcLo := rfl
@[simp] theorem Mbcore.setCrcHi_pressure (s : Mbcore) (v : Byte) : (s.setCrcHi v).pressure = s.pressure := rfl
@[simp] theorem Mbcore.setCrcHi_presUpd (s : Mbcore) (v : Byte) : (s.setCrcHi v).presUpd = s.presUpd := rfl
@[simp] theorem Mbcore.setCrcHi_dir (s : Mbcore) (v : Byte) : (s.setCrcHi v).dir = s.dir := rfl
@[simp] theorem Mbcore.setCrcHi_q (s : Mbcore) (v : Byte) : (s.setCrcHi v).q = s.q := rfl

@[simp] theorem Mbcore.setCrcLo_ptc (s : Mbcore) (v : Byte) : (s.setCrcLo v).ptc = s.ptc := rfl
@[simp] theorem Mbcore.setCrcLo_pollFlag (s : Mbcore) (v : Byte) : (s.setCrcLo v).pollFlag = s.pollFlag := rfl
@[simp] theorem Mbcore.setCrcLo_rto (s : Mbcore) (v : Byte) : (s.setCrcLo v).rto = s.rto := rfl
@[simp] theorem Mbcore.setCrcLo_rxCount (s : Mbcore) (v : Byte) : (s.setCrcLo v).rxCount = s.rxCount := rfl
@[simp] theorem Mbcore.setCrcLo_rxbuf (s : Mbcore) (v : Byte) : (s.setCrcLo v).rxbuf = s.rxbuf := rfl
@[simp] theorem Mbcore.setCrcLo_dataAvail (s : Mbcore) (v : Byte) : (s.setCrcLo v).dataAvail = s.dataAvail := rfl
@[simp] theorem Mbcore.setCrcLo_crcHi (s : Mbcore) (v : Byte) : (s.setCrcLo v).crcHi = s.crcHi := rfl
@[simp] theorem Mbcore.setCrcLo_crcLo (s : Mbcore) (v : Byte) : (s.setCrcLo v).crcLo = v := rfl
@[simp] theorem Mbcore.setCrcLo_pressure (s : Mbcore) (v : Byte) : (s.setCrcLo v).pressure = s.pressure := rfl
@[simp] theorem Mbcore.setCrcLo_presUpd (s : Mbcore) (v : Byte) : (s.setCrcLo v).presUpd = s.presUpd := rfl
@[simp] theorem Mbcore.setCrcLo_dir (s : Mbcore) (v : Byte) : (s.setCrcLo v).dir = s.dir := rfl
@[simp] theorem Mbcore.setCrcLo_q (s : Mbcore) (v : Byte) : (s.setCrcLo v).q = s.q := rfl

@[simp] theorem Mbcore.setPressure_ptc (s : Mbcore) (v : Word16) : (s.setPressure v).ptc = s.ptc := rfl
@[simp] theorem Mbcore.setPressure_pollFlag (s : Mbcore) (v : Word16) : (s.setPressure v).pollFlag = s.pollFlag := rfl
@[simp] theorem Mbcore.setPressure_rto (s : Mbcore) (v : Word16) : (s.setPressure v).rto = s.rto := rfl
@[simp] theorem Mbcore.setPressure_rxCount (s : Mbcore) (v : Word16) : (s.setPressure v).rxCount = s.rxCount := rfl
@[simp] theorem Mbcore.setPressure_rxbuf (s : Mbcore) (v : Word16) : (s.setPressure v).rxbuf = s.rxbuf := rfl
@[simp] theorem Mbcore.setPressure_dataAvail (s : Mbcore) (v : Word16) : (s.setPressure v).dataAvail = s.dataAvail := rfl
@[simp] theorem Mbcore.setPressure_crcHi (s : Mbcore) (v : Word16) : (s.setPressure v).crcHi = s.crcHi := rfl
@[simp] theorem Mbcore.setPressure_crcLo (s : Mbcore) (v : Word16) : (s.setPressure v).crcLo = s.crcLo := rfl
@[simp] theorem Mbcore.setPressure_pressure (s : Mbcore) (v : Word16) : (s.setPressure v).pressure = v := rfl
@[simp] theorem Mbcore.setPressure_presUpd (s : Mbcore) (v : Word16) : (s.setPressure v).presUpd = s.presUpd := rfl
@[simp] theorem Mbcore.setPressure_dir (s : Mbcore) (v : Word16) : (s.setPressure v).dir = s.dir := rfl
@[simp] theorem Mbcore.setPressure_q (s : Mbcore) (v : Word16) : (s.setPressure v).q = s.q := rfl

@[simp] theorem Mbcore.setPresUpd_ptc (s : Mbcore) (v : Bool) : (s.setPresUpd v).ptc = s.ptc := rfl
@[simp] theorem Mbcore.setPresUpd_pollFlag (s : Mbcore) (v : Bool) : (s.setPresUpd v).pollFlag = s.pollFlag := rfl
@[simp] theorem Mbcore.setPresUpd_rto (s : Mbcore) (v : Bool) : (s.setPresUpd v).rto = s.rto := rfl
@[simp] theorem Mbcore.setPresUpd_rxCount (s : Mbcore) (v : Bool) : (s.setPresUpd v).rxCount = s.rxCount := rfl
@[simp] theorem Mbcore.setPresUpd_rxbuf (s : Mbcore) (v : Bool) : (s.setPresUpd v).rxbuf = s.rxbuf := rfl
@[simp] theorem Mbcore.setPresUpd_dataAvail (s : Mbcore) (v : Bool) : (s.setPresUpd v).dataAvail = s.dataAvail := rfl
@[simp] theorem Mbcore.setPresUpd_crcHi (s : Mbcore) (v : Bool) : (s.setPresUpd v).crcHi = s.crcHi := rfl
@[simp] theorem Mbcore.setPresUpd_crcLo (s : Mbcore) (v : Bool) : (s.setPresUpd v).crcLo = s.crcLo := rfl
@[simp] theorem Mbcore.setPresUpd_pressure (s : Mbcore) (v : Bool) : (s.setPresUpd v).pressure = s.pressure := rfl
@[simp] theorem Mbcore.setPresUpd_presUpd (s : Mbcore) (v : Bool) : (s.setPresUpd v).presUpd = v := rfl
@[simp] theorem Mbcore.setPresUpd_dir (s : Mbcore) (v : Bool) : (s.setPresUpd v).dir = s.dir := rfl
@[simp] theorem Mbcore.setPresUpd_q (s : Mbcore) (v : Bool) : (s.setPresUpd v).q = s.q := rfl

@[simp] theorem Mbcore.setDir_ptc (s : Mbcore) (v : Bool) : (s.setDir v).ptc = s.ptc := rfl
@[simp] theorem Mbcore.setDir_pollFlag (s : Mbcore) (v : Bool) : (s.setDir v).pollFlag = s.pollFlag := rfl
@[simp] theorem Mbcore.setDir_rto (s : Mbcore) (v : Bool) : (s.setDir v).rto = s.rto := rfl
@[simp] theorem Mbcore.setDir_rxCount (s : Mbcore) (v : Bool) : (s.setDir v).rxCount = s.rxCount := rfl
@[simp] theorem Mbcore.setDir_rxbuf (s : Mbcore) (v : Bool) : (s.setDir v).rxbuf = s.rxbuf := rfl
@[simp] theorem Mbcore.setDir_dataAvail (s : Mbcore) (v : Bool) : (s.setDir v).dataAvail = s.dataAvail := rfl
@[simp] theorem Mbcore.setDir_crcHi (s : Mbcore) (v : Bool) : (s.setDir v).crcHi = s.crcHi := rfl
@[simp] theorem Mbcore.setDir_crcLo (s : Mbcore) (v : Bool) : (s.setDir v).crcLo = s.crcLo := rfl
@[simp] theorem Mbcore.setDir_pressure (s : Mbcore) (v : Bool) : (s.setDir v).pressure = s.pressure := rfl
@[simp] theorem Mbcore.setDir_presUpd (s : Mbcore) (v : Bool) : (s.setDir v).presUpd = s.presUpd := rfl
@[simp] theorem Mbcore.setDir_dir (s : Mbcore) (v : Bool) : (s.setDir v).dir = v := rfl
@[simp] theorem Mbcore.setDir_q (s : Mbcore) (v : Bool) : (s.setDir v).q = s.q := rfl

@[simp] theorem Mbcore.setQ_ptc (s : Mbcore) (v : SeqState) : (s.setQ v).ptc = s.ptc := rfl
@[simp] theorem Mbcore.setQ_pollFlag (s : Mbcore) (v : SeqState) : (s.setQ v).pollFlag = s.pollFlag := rfl
@[simp] theorem Mbcore.setQ_rto (s : Mbcore) (v : SeqState) : (s.setQ v).rto = s.rto := rfl
@[simp] theorem Mbcore.setQ_rxCount (s : Mbcore) (v : SeqState) : (s.setQ v).rxCount = s.rxCount := rfl
@[simp] theorem Mbcore.setQ_rxbuf (s : Mbcore) (v : SeqState) : (s.setQ v).rxbuf = s.rxbuf := rfl
@[simp] theorem Mbcore.setQ_dataAvail (s : Mbcore) (v : SeqState) : (s.setQ v).dataAvail = s.dataAvail := rfl
@[simp] theorem Mbcore.setQ_crcHi (s : Mbcore) (v : SeqState) : (s.setQ v).crcHi = s.crcHi := rfl
@[simp] theorem Mbcore.setQ_crcLo (s : Mbcore) (v : SeqState) : (s.setQ v).crcLo = s.crcLo := rfl
@[simp] theorem Mbcore.setQ_pressure (s : Mbcore) (v : SeqState) : (s.setQ v).pressure = s.pressure := rfl
@[simp] theorem Mbcore.setQ_presUpd (s : Mbcore) (v : SeqState) : (s.setQ v).presUpd = s.presUpd := rfl
@[simp] theorem Mbcore.setQ_dir (s : Mbcore) (v : SeqState) : (s.setQ v).dir = s.dir := rfl
@[simp] theorem Mbcore.setQ_q (s : Mbcore) (v : SeqState) : (s.setQ v).q = v := rfl

@[simp] theorem Mbcore.setCrc_ptc (s : Mbcore) (p : CrcPair) : (s.setCrc p).ptc = s.ptc := rfl
@[simp] theorem Mbcore.setCrc_pollFlag (s : Mbcore) (p : CrcPair) : (s.setCrc p).pollFlag = s.pollFlag := rfl
@[simp] theorem Mbcore.setCrc_rto (s : Mbcore) (p : CrcPair) : (s.setCrc p).rto = s.rto := rfl
@[simp] theorem Mbcore.setCrc_rxCount (s : Mbcore) (p : CrcPair) : (s.setCrc p).rxCount = s.rxCount := rfl
@[simp] theorem Mbcore.setCrc_rxbuf (s : Mbcore) (p : CrcPair) : (s.setCrc p).rxbuf = s.rxbuf := rfl
@[simp] theorem Mbcore.setCrc_dataAvail (s : Mbcore) (p : CrcPair) : (s.setCrc p).dataAvail = s.dataAvail := rfl
@[simp] theorem Mbcore.setCrc_crcHi (s : Mbcore) (p : CrcPair) : (s.setCrc p).crcHi = p.hi := rfl
@[simp] theorem Mbcore.setCrc_crcLo (s : Mbcore) (p : CrcPair) : (s.setCrc p).crcLo = p.lo := rfl
@[simp] theorem Mbcore.setCrc_pressure (s : Mbcore) (p : CrcPair) : (s.setCrc p).pressure = s.pressure := rfl
@[simp] theorem Mbcore.setCrc_presUpd (s : Mbcore) (p : CrcPair) : (s.setCrc p).presUpd = s.presUpd := rfl
@[simp] theorem Mbcore.setCrc_dir (s : Mbcore) (p : CrcPair) : (s.setCrc p).dir = s.dir := rfl
@[simp] theorem Mbcore.setCrc_q (s : Mbcore) (p : CrcPair) : (s.setCrc p).q = s.q := rfl

@[simp] theorem Mbcore.resetState_ptc (s : Mbcore) : s.resetState.ptc = 0#Config.wPtc := rfl
@[simp] theorem Mbcore.resetState_pollFlag (s : Mbcore) : s.resetState.pollFlag = false := rfl
@[simp] theorem Mbcore.resetState_rto (s : Mbcore) : s.resetState.rto = 0#Config.wRto := rfl
@[simp] theorem Mbcore.resetState_rxCount (s : Mbcore) : s.resetState.rxCount = 0#Config.wCount := rfl
@[simp] theorem Mbcore.resetState_rxbuf (s : Mbcore) : s.resetState.rxbuf = s.rxbuf := rfl
@[simp] theorem Mbcore.resetState_dataAvail (s : Mbcore) : s.resetState.dataAvail = false := rfl
@[simp] theorem Mbcore.resetState_crcHi (s : Mbcore) : s.resetState.crcHi = 0xFF#8 := rfl
@[simp] theorem Mbcore.resetState_crcLo (s : Mbcore) : s.resetState.crcLo = 0xFF#8 := rfl
@[simp] theorem Mbcore.resetState_pressure (s : Mbcore) : s.resetState.pressure = 0x0000#16 := rfl
@[simp] theorem Mbcore.resetState_presUpd (s : Mbcore) : s.resetState.presUpd = false := rfl
@[simp] theorem Mbcore.resetState_dir (s : Mbcore) : s.resetState.dir = false := rfl
@[simp] theorem Mbcore.resetState_q (s : Mbcore) : s.resetState.q = .idle := rfl

@[simp] theorem Mbcore.crcPair_hi (s : Mbcore) : s.crcPair.hi = s.crcHi := rfl
@[simp] theorem Mbcore.crcPair_lo (s : Mbcore) : s.crcPair.lo = s.crcLo := rfl

/-- Two states of MBCORE are equal when their twelve elements are. -/
theorem Mbcore.eq_of_fields {s t : Mbcore} (h1 : s.ptc = t.ptc) (h2 : s.pollFlag = t.pollFlag) (h3 : s.rto = t.rto)
    (h4 : s.rxCount = t.rxCount) (h5 : s.rxbuf = t.rxbuf) (h6 : s.dataAvail = t.dataAvail) (h7 : s.crcHi = t.crcHi)
    (h8 : s.crcLo = t.crcLo) (h9 : s.pressure = t.pressure) (h10 : s.presUpd = t.presUpd) (h11 : s.dir = t.dir)
    (h12 : s.q = t.q) : s = t := by
  cases s
  cases t
  simp_all

@[simp] theorem State.onCore_toMbcore (s : State) (f : Mbcore → Mbcore) : (s.onCore f).toMbcore = f s.toMbcore := rfl
@[simp] theorem State.onCore_toEnvironment (s : State) (f : Mbcore → Mbcore) :
    (s.onCore f).toEnvironment = s.toEnvironment := rfl
@[simp] theorem State.setStimuli_toMbcore (s : State) (v : List Stimulus) : (s.setStimuli v).toMbcore = s.toMbcore := rfl
@[simp] theorem State.setStimuli_stimuli (s : State) (v : List Stimulus) : (s.setStimuli v).stimuli = v := rfl
@[simp] theorem State.setStimuli_envCycle (s : State) (v : List Stimulus) : (s.setStimuli v).envCycle = s.envCycle := rfl
@[simp] theorem State.setEnvCycle_toMbcore (s : State) (v : Nat) : (s.setEnvCycle v).toMbcore = s.toMbcore := rfl
@[simp] theorem State.setEnvCycle_stimuli (s : State) (v : Nat) : (s.setEnvCycle v).stimuli = s.stimuli := rfl
@[simp] theorem State.setEnvCycle_envCycle (s : State) (v : Nat) : (s.setEnvCycle v).envCycle = v := rfl

/-- MBCORE's moves one after the other are one move. -/
@[simp] theorem State.onCore_onCore (s : State) (f g : Mbcore → Mbcore) :
    (s.onCore f).onCore g = s.onCore fun m => g (f m) := rfl

/-- Two states of a run are equal when MBCORE and the environment are. -/
theorem State.eq_of_parts {s t : State} (h : s.toMbcore = t.toMbcore) (e : s.toEnvironment = t.toEnvironment) : s = t := by
  cases s
  cases t
  simp_all

end Sys2Proof.Machine
end

