-- ==== Sys2Proof/Laws/Memory.lean ====
section
/-! SUPPORT. The receive buffer: what a lookup after a write gives, and that every memory operation keeps the canonical
form. -/

namespace Sys2Proof.Machine

/-- A lookup after an insertion: the inserted byte at its index, the old contents everywhere else. -/
theorem Memory.lookup_insert (i j : Nat) (v : Byte) (m : List Host.Cell) :
    Memory.lookup j (Memory.insert i v m) = if j = i then some v else Memory.lookup j m := by
  induction m with
  | nil =>
    by_cases h : j = i
    · simp [Memory.insert, Memory.lookup, h]
    · have h' : i ≠ j := fun e => h e.symm
      simp [Memory.insert, Memory.lookup, h, h']
  | cons c cs ih =>
    simp only [Memory.insert]
    split
    · by_cases h : j = i
      · simp [Memory.lookup, h]
      · have h' : i ≠ j := fun e => h e.symm
        simp [Memory.lookup, h, h']
    · split
      · rename_i h1 h2
        by_cases h : j = i
        · simp [Memory.lookup, h]
        · have hc : c.1 ≠ j := fun e => h (e.symm.trans h2.symm)
          have hi : i ≠ j := fun e => h e.symm
          simp [Memory.lookup, h, hc, hi]
      · rename_i h1 h2
        by_cases hc : c.1 = j
        · have h : j ≠ i := fun e => h2 (e.symm.trans hc.symm)
          simp [Memory.lookup, hc, h]
        · simp [Memory.lookup, hc, ih]

/-- An insertion brings in no index but its own. -/
theorem Memory.mem_insert {i : Nat} {v : Byte} {m : List Host.Cell} {c : Host.Cell}
    (h : c ∈ Memory.insert i v m) : c.1 = i ∨ c ∈ m := by
  induction m with
  | nil => simp only [Memory.insert, List.mem_singleton] at h; simp [h]
  | cons d ds ih =>
    simp only [Memory.insert] at h
    split at h
    · rcases List.mem_cons.mp h with rfl | h
      · exact .inl rfl
      · exact .inr h
    · split at h
      · rcases List.mem_cons.mp h with rfl | h
        · exact .inl rfl
        · exact .inr (List.mem_cons_of_mem _ h)
      · rcases List.mem_cons.mp h with rfl | h
        · exact .inr List.mem_cons_self
        · rcases ih h with h | h
          · exact .inl h
          · exact .inr (List.mem_cons_of_mem _ h)

/-- An insertion keeps the indices strictly rising. -/
theorem Memory.insert_rising (i : Nat) (v : Byte) (m : List Host.Cell)
    (h : m.Pairwise fun a b => a.1 < b.1) : (Memory.insert i v m).Pairwise fun a b => a.1 < b.1 := by
  induction m with
  | nil => simp [Memory.insert]
  | cons c cs ih =>
    obtain ⟨hc, hcs⟩ := List.pairwise_cons.mp h
    simp only [Memory.insert]
    split
    · rename_i hi
      refine List.pairwise_cons.mpr ⟨fun a ha => ?_, h⟩
      rcases List.mem_cons.mp ha with rfl | ha
      · exact hi
      · exact Nat.lt_trans hi (hc a ha)
    · split
      · rename_i hi
        exact List.pairwise_cons.mpr ⟨fun a ha => hi ▸ hc a ha, hcs⟩
      · rename_i h1 h2
        refine List.pairwise_cons.mpr ⟨fun a ha => ?_, ih hcs⟩
        rcases Memory.mem_insert ha with ha | ha
        · omega
        · exact hc a ha

/-- What the canonical form says. -/
theorem Memory.wf_iff (m : Memory) :
    m.wf = true ↔ (m.Pairwise fun a b => a.1 < b.1) ∧ ∀ c ∈ m, c.1 < Config.rxbufLen := by
  simp [Memory.wf]

/-- Every memory operation keeps the canonical form (the write is the only one that changes a memory). -/
theorem Memory.write_wf (m : Memory) (i : BufIndex) (v : Byte) (h : m.wf = true) : (m.write i v).wf = true := by
  obtain ⟨h1, h2⟩ := m.wf_iff.mp h
  refine (Memory.wf_iff _).mpr ⟨Memory.insert_rising _ _ _ h1, fun c hc => ?_⟩
  rcases Memory.mem_insert hc with hc | hc
  · exact hc ▸ i.isLt
  · exact h2 c hc

/-- The memory of the reset state has the canonical form. -/
theorem Memory.reset_wf : Memory.wf State.reset.rxbuf = true := by decide

/-- A read after a write: the written byte at its index, the old byte at every other. -/
theorem Memory.read_write (m : Memory) (i j : BufIndex) (v : Byte) :
    (m.write i v).read j = if j = i then v else m.read j := by
  simp only [Memory.read, Memory.write, Memory.lookup_insert, Fin.ext_iff]
  split <;> simp

@[simp] theorem Memory.read_write_same (m : Memory) (i : BufIndex) (v : Byte) : (m.write i v).read i = v := by
  simp [Memory.read_write]

@[simp] theorem Memory.read_write_other (m : Memory) {i j : BufIndex} (v : Byte) (h : j ≠ i) :
    (m.write i v).read j = m.read j := by
  simp [Memory.read_write, h]

/-- States with one buffer read the same bytes. -/
theorem Mbcore.buf_congr {s t : Mbcore} (h : s.rxbuf = t.rxbuf) (i : BufIndex) : s.buf i = t.buf i := by
  simp [Mbcore.buf, h]

/-- States with one buffer have written the same indices. -/
theorem Mbcore.written_congr {s t : Mbcore} (h : s.rxbuf = t.rxbuf) (i : BufIndex) : s.written i = t.written i := by
  simp [Mbcore.written, h]

end Sys2Proof.Machine
end

