-- ==== Sys2Proof/Laws/Ops.lean ====
section
/-! SUPPORT. For each shared operation, once, everything it can do. -/

namespace Sys2Proof.Machine

/-- TICK as one record update. -/
theorem tickStep_eq (s : Mbcore) :
    s.tickStep = { s with
      ptc := if s.pollFires then 0#Config.wPtc else s.ptc + 1#Config.wPtc
      pollFlag := s.pollFires || s.pollFlag
      rto := if s.rtoRuns then s.rto + 1#Config.wRto else s.rto } := by
  cases hp : s.pollFires <;> cases hr : s.rtoRuns <;>
    simp_all [Mbcore.tickStep, Mbcore.tickPoll, Mbcore.tickRto, Mbcore.rtoRuns, Mbcore.setPtc, Mbcore.setPollFlag, Mbcore.setRto]

@[simp] theorem tickStep_rxCount (s : Mbcore) : s.tickStep.rxCount = s.rxCount := by simp [tickStep_eq]
@[simp] theorem tickStep_rxbuf (s : Mbcore) : s.tickStep.rxbuf = s.rxbuf := by simp [tickStep_eq]
@[simp] theorem tickStep_dataAvail (s : Mbcore) : s.tickStep.dataAvail = s.dataAvail := by simp [tickStep_eq]
@[simp] theorem tickStep_crcHi (s : Mbcore) : s.tickStep.crcHi = s.crcHi := by simp [tickStep_eq]
@[simp] theorem tickStep_crcLo (s : Mbcore) : s.tickStep.crcLo = s.crcLo := by simp [tickStep_eq]
@[simp] theorem tickStep_pressure (s : Mbcore) : s.tickStep.pressure = s.pressure := by simp [tickStep_eq]
@[simp] theorem tickStep_presUpd (s : Mbcore) : s.tickStep.presUpd = s.presUpd := by simp [tickStep_eq]
@[simp] theorem tickStep_dir (s : Mbcore) : s.tickStep.dir = s.dir := by simp [tickStep_eq]
@[simp] theorem tickStep_q (s : Mbcore) : s.tickStep.q = s.q := by simp [tickStep_eq]
/-- PTC after a tick, as a number (rule R81). -/
theorem tickStep_ptc_toNat (s : Mbcore) :
    s.tickStep.ptc.toNat = if 100 < s.ptc.toNat + 1 then 0 else s.ptc.toNat + 1 := by
  by_cases h : 100 < s.ptc.toNat + 1
  · simp [tickStep_eq, Mbcore.pollFires, Config.pollThreshold, h]
  · simp [tickStep_eq, Mbcore.pollFires, Config.pollThreshold, h]; omega

/-- RTO after a tick, as a number (rule R97). -/
theorem tickStep_rto_toNat (s : Mbcore) :
    s.tickStep.rto.toNat = if s.rto.toNat < 100 then s.rto.toNat + 1 else s.rto.toNat := by
  by_cases h : s.rto.toNat < 100
  · simp [tickStep_eq, Mbcore.rtoRuns, Config.rtoCap, h]; omega
  · simp [tickStep_eq, Mbcore.rtoRuns, Config.rtoCap, h]

/-- The byte-arrival step with room in the buffer. -/
theorem rxStep_room (s : Mbcore) (b : Byte) (h : s.rxCount.toNat < Config.rxbufLen) :
    s.rxStep b = { s with
      rxbuf := s.rxbuf.write ⟨s.rxCount.toNat, h⟩ b
      rxCount := s.rxCount + 1#Config.wCount
      rto := 0#Config.wRto
      dataAvail := true } := by
  simp [Mbcore.rxStep, Mbcore.appendByte, h, Mbcore.setRxbuf, Mbcore.setRxCount, Mbcore.setRto, Mbcore.setDataAvail]

/-- The byte-arrival step with the buffer full: the byte is dropped. -/
theorem rxStep_full (s : Mbcore) (b : Byte) (h : ¬ s.rxCount.toNat < Config.rxbufLen) :
    s.rxStep b = { s with rto := 0#Config.wRto, dataAvail := true } := by
  simp [Mbcore.rxStep, Mbcore.appendByte, h, Mbcore.setRto, Mbcore.setDataAvail]

/-- Everything the byte-arrival step can do. -/
theorem rxStep_cases (s : Mbcore) (b : Byte) :
    (∃ h : s.rxCount.toNat < Config.rxbufLen, s.rxStep b = { s with
      rxbuf := s.rxbuf.write ⟨s.rxCount.toNat, h⟩ b
      rxCount := s.rxCount + 1#Config.wCount
      rto := 0#Config.wRto
      dataAvail := true }) ∨
    (¬ s.rxCount.toNat < Config.rxbufLen ∧ s.rxStep b = { s with rto := 0#Config.wRto, dataAvail := true }) := by
  by_cases h : s.rxCount.toNat < Config.rxbufLen
  · exact .inl ⟨h, rxStep_room s b h⟩
  · exact .inr ⟨h, rxStep_full s b h⟩

@[simp] theorem rxStep_ptc (s : Mbcore) (b : Byte) : (s.rxStep b).ptc = s.ptc := by
  obtain ⟨_, h⟩ | ⟨_, h⟩ := rxStep_cases s b <;> simp [h]
@[simp] theorem rxStep_pollFlag (s : Mbcore) (b : Byte) : (s.rxStep b).pollFlag = s.pollFlag := by
  obtain ⟨_, h⟩ | ⟨_, h⟩ := rxStep_cases s b <;> simp [h]
@[simp] theorem rxStep_rto (s : Mbcore) (b : Byte) : (s.rxStep b).rto = 0#Config.wRto := by
  obtain ⟨_, h⟩ | ⟨_, h⟩ := rxStep_cases s b <;> simp [h]
@[simp] theorem rxStep_dataAvail (s : Mbcore) (b : Byte) : (s.rxStep b).dataAvail = true := by
  obtain ⟨_, h⟩ | ⟨_, h⟩ := rxStep_cases s b <;> simp [h]
@[simp] theorem rxStep_crcHi (s : Mbcore) (b : Byte) : (s.rxStep b).crcHi = s.crcHi := by
  obtain ⟨_, h⟩ | ⟨_, h⟩ := rxStep_cases s b <;> simp [h]
@[simp] theorem rxStep_crcLo (s : Mbcore) (b : Byte) : (s.rxStep b).crcLo = s.crcLo := by
  obtain ⟨_, h⟩ | ⟨_, h⟩ := rxStep_cases s b <;> simp [h]
@[simp] theorem rxStep_pressure (s : Mbcore) (b : Byte) : (s.rxStep b).pressure = s.pressure := by
  obtain ⟨_, h⟩ | ⟨_, h⟩ := rxStep_cases s b <;> simp [h]
@[simp] theorem rxStep_presUpd (s : Mbcore) (b : Byte) : (s.rxStep b).presUpd = s.presUpd := by
  obtain ⟨_, h⟩ | ⟨_, h⟩ := rxStep_cases s b <;> simp [h]
@[simp] theorem rxStep_dir (s : Mbcore) (b : Byte) : (s.rxStep b).dir = s.dir := by
  obtain ⟨_, h⟩ | ⟨_, h⟩ := rxStep_cases s b <;> simp [h]
@[simp] theorem rxStep_q (s : Mbcore) (b : Byte) : (s.rxStep b).q = s.q := by
  obtain ⟨_, h⟩ | ⟨_, h⟩ := rxStep_cases s b <;> simp [h]
/-- RX_COUNT after a byte, as a number (rules R96, R102). -/
theorem rxStep_rxCount_toNat (s : Mbcore) (b : Byte) :
    (s.rxStep b).rxCount.toNat = if s.rxCount.toNat < 9 then s.rxCount.toNat + 1 else s.rxCount.toNat := by
  obtain ⟨h, e⟩ | ⟨h, e⟩ := rxStep_cases s b
  · have h' : s.rxCount.toNat < 9 := h
    simp [e, h']; omega
  · have h' : ¬ s.rxCount.toNat < 9 := h
    simp [e, h']

/-- The byte a read gives after the byte-arrival step. -/
theorem rxStep_buf (s : Mbcore) (b : Byte) (i : BufIndex) :
    (s.rxStep b).buf i = if i.val = s.rxCount.toNat then b else s.buf i := by
  obtain ⟨h, e⟩ | ⟨h, e⟩ := rxStep_cases s b
  · simp only [e, Mbcore.buf, Memory.read_write, Fin.ext_iff]
  · have : i.val ≠ s.rxCount.toNat := fun hi => h (hi ▸ i.isLt)
    simp [e, Mbcore.buf, this]

/-- Presenting a request byte writes Q only. -/
theorem presentByte_eq (here next : SeqState) (r : Bool) (s : Mbcore) :
    presentByte here next r s = s.setQ (if r then next else here) := by
  cases r <;> rfl

/-- GATE: the two ways it can go. -/
theorem microGate_cases (s : Mbcore) :
    (∃ v, s.gateVerdict = some v ∧ microGate s = s.setQ .clr) ∨
    (s.gateVerdict = none ∧ microGate s = (s.setCrc crcInit).setQ .crc0) := by
  cases h : s.gateVerdict with
  | none => exact .inr ⟨rfl, by simp [microGate, h]⟩
  | some v => exact .inl ⟨v, rfl, by simp [microGate, h]⟩

/-- GATE passes exactly when the count and the three header bytes are right (rule R111). -/
theorem gateVerdict_none (s : Mbcore) :
    s.gateVerdict = none ↔ 7 ≤ s.rxCount.toNat ∧ s.buf 0 = 0x01#8 ∧ s.buf 1 = 0x03#8 ∧ s.buf 2 = 0x02#8 := by
  unfold Mbcore.gateVerdict Config.decodeMinCount Config.slaveAddr Config.funcCode Config.byteCount
  by_cases h : s.rxCount.toNat < 7
  · simp only [h, if_true]
    constructor
    · intro h'; cases h'
    · intro h'; omega
  · have h7 : 7 ≤ s.rxCount.toNat := by omega
    by_cases h0 : s.buf 0 = 0x01#8 <;> by_cases h1 : s.buf 1 = 0x03#8 <;> by_cases h2 : s.buf 2 = 0x02#8 <;>
      simp [h, h7, h0, h1, h2]

/-- The bytes the CRC covers, written out. -/
@[simp] theorem frameHead_eq (s : Mbcore) : s.frameHead = [s.buf 0, s.buf 1, s.buf 2, s.buf 3, s.buf 4] := rfl

/-- Everything SEQ can do, by the state of Q. -/
theorem seqStep_cases (r : Bool) (s : Mbcore) :
    (s.q = .idle ∧ s.pollFlag = true ∧ seqStep r s = (s.setDir true).setQ .tx0) ∨
    (s.q = .idle ∧ s.pollFlag = false ∧ s.dataAvail = true ∧ seqStep r s = s.setQ .wait) ∨
    (s.q = .idle ∧ s.pollFlag = false ∧ s.dataAvail = false ∧ seqStep r s = s) ∨
    (∃ i, s.q.txIndex = some i ∧ r = false ∧ seqStep r s = s) ∨
    (∃ i x, s.q.txIndex = some i ∧ r = true ∧ x.code = s.q.code + 1#Config.wQ ∧ (x = .txend ↔ s.q = .tx7) ∧
      (x.txIndex.isSome ∨ x = .txend) ∧ seqStep r s = s.setQ x) ∨
    (s.q = .txend ∧
      seqStep r s = ((((s.setDir false).setPollFlag false).setRxCount 0#Config.wCount).setRto 0#Config.wRto).setQ .idle) ∨
    (s.q = .wait ∧ s.waitOver = true ∧ seqStep r s = s.setQ .gate) ∨
    (s.q = .wait ∧ s.waitOver = false ∧ seqStep r s = s) ∨
    (s.q = .gate ∧ s.gateVerdict = none ∧ seqStep r s = (s.setCrc crcInit).setQ .crc0) ∨
    (∃ v, s.q = .gate ∧ s.gateVerdict = some v ∧ seqStep r s = s.setQ .clr) ∨
    (∃ (k : BufIndex) (x : SeqState),
      ((s.q = .crc0 ∧ k = 0 ∧ x = .crc1) ∨ (s.q = .crc1 ∧ k = 1 ∧ x = .crc2) ∨ (s.q = .crc2 ∧ k = 2 ∧ x = .crc3) ∨
        (s.q = .crc3 ∧ k = 3 ∧ x = .crc4) ∨ (s.q = .crc4 ∧ k = 4 ∧ x = .cmp)) ∧
      seqStep r s = (s.setCrc (crcByte s.crcPair (s.buf k))).setQ x) ∨
    (s.q = .cmp ∧ s.crcMatches = true ∧
      seqStep r s = ((s.setPressure s.framePressure).setPresUpd true).setQ .clr) ∨
    (s.q = .cmp ∧ s.crcMatches = false ∧ seqStep r s = s.setQ .clr) ∨
    (s.q = .clr ∧ seqStep r s = (((s.setDataAvail false).setRxCount 0#Config.wCount).setPresUpd false).setQ .idle) := by
  have stay : ∀ x, s.q = x → s.setQ x = s := by rintro x rfl; rfl
  cases hq : s.q
  case idle =>
    cases hp : s.pollFlag <;> cases hd : s.dataAvail <;>
      simp [seqStep, microIdle, hq, hp, hd, stay .idle hq]
  case wait => cases hw : s.waitOver <;> simp [seqStep, microWait, hq, hw, stay .wait hq, SeqState.txIndex]
  case gate =>
    obtain ⟨v, hv, he⟩ | ⟨hv, he⟩ := microGate_cases s <;> simp [seqStep, hq, hv, he, SeqState.txIndex]
  case cmp => cases hc : s.crcMatches <;> simp [seqStep, microCmp, hq, hc, SeqState.txIndex]
  case clr => simp [seqStep, microClr, hq, SeqState.txIndex]
  case txend => simp [seqStep, microTxend, hq, SeqState.txIndex]
  case crc0 => simp [seqStep, microCrc0, crcStep, hq, SeqState.txIndex]
  case crc1 => simp [seqStep, microCrc1, crcStep, hq, SeqState.txIndex]
  case crc2 => simp [seqStep, microCrc2, crcStep, hq, SeqState.txIndex]
  case crc3 => simp [seqStep, microCrc3, crcStep, hq, SeqState.txIndex]
  case crc4 => simp [seqStep, microCrc4, crcStep, hq, SeqState.txIndex]
  all_goals
    cases r
    · simp [seqStep, microTx0, microTx1, microTx2, microTx3, microTx4, microTx5, microTx6, microTx7, presentByte, hq,
        stay _ hq, SeqState.txIndex]
    · refine .inr (.inr (.inr (.inr (.inl ?_))))
      simp only [seqStep, microTx0, microTx1, microTx2, microTx3, microTx4, microTx5, microTx6, microTx7, presentByte, hq]
      exact ⟨_, _, rfl, trivial, rfl, by simp, by simp [SeqState.txIndex], rfl⟩

/-- SEQ never writes PTC or the buffer (rule R23). -/
theorem seqStep_keeps (r : Bool) (s : Mbcore) : (seqStep r s).ptc = s.ptc ∧ (seqStep r s).rxbuf = s.rxbuf := by
  rcases seqStep_cases r s with
    ⟨_, _, h⟩ | ⟨_, _, _, h⟩ | ⟨_, _, _, h⟩ | ⟨_, _, _, h⟩ | ⟨_, _, _, _, _, _, _, h⟩ | ⟨_, h⟩ | ⟨_, _, h⟩ | ⟨_, _, h⟩ |
    ⟨_, _, h⟩ | ⟨_, _, _, h⟩ | ⟨_, _, _, h⟩ | ⟨_, _, h⟩ | ⟨_, _, h⟩ | ⟨_, h⟩ <;> simp [h]

@[simp] theorem seqStep_ptc (r : Bool) (s : Mbcore) : (seqStep r s).ptc = s.ptc := (seqStep_keeps r s).1
@[simp] theorem seqStep_rxbuf (r : Bool) (s : Mbcore) : (seqStep r s).rxbuf = s.rxbuf := (seqStep_keeps r s).2

/-- Everything a cycle can do. -/
theorem cycle_cases (s : Mbcore) (w : InputWord) :
    (inputRst w = true ∧ cycle s w = s.resetState) ∨
    (inputRst w = false ∧ inputTick w = false ∧ inputRxValid w = false ∧
      cycle s w = seqStep (inputTxReady w) s) ∨
    (inputRst w = false ∧ inputTick w = true ∧ inputRxValid w = false ∧
      cycle s w = (seqStep (inputTxReady w) s).tickStep) ∨
    (inputRst w = false ∧ inputTick w = false ∧ inputRxValid w = true ∧
      cycle s w = (seqStep (inputTxReady w) s).rxStep (inputRxData w)) ∨
    (inputRst w = false ∧ inputTick w = true ∧ inputRxValid w = true ∧
      cycle s w = (seqStep (inputTxReady w) s).tickStep.rxStep (inputRxData w)) := by
  cases h1 : inputRst w <;> cases h2 : inputTick w <;> cases h3 : inputRxValid w <;> simp [cycle, h1, h2, h3]

theorem runWords_append (s : Mbcore) (ws vs : List InputWord) :
    runWords s (ws ++ vs) = runWords (runWords s ws) vs := by
  induction ws generalizing s with
  | nil => rfl
  | cons w ws ih => exact ih (cycle s w)

/-- What a property that every cycle keeps gives over a run of cycles: the one induction over input words. -/
theorem runWords_induct {P : Mbcore → Prop} (hc : ∀ s w, P s → P (cycle s w)) (s : Mbcore) (ws : List InputWord)
    (h : P s) : P (runWords s ws) := by
  induction ws generalizing s with
  | nil => exact h
  | cons w ws ih => exact ih _ (hc s w h)

@[simp] theorem apply_seq (r : Bool) (s : Mbcore) : (AgentStep.seq r).apply s = seqStep r s := rfl
@[simp] theorem apply_tick (s : Mbcore) : AgentStep.tick.apply s = s.tickStep := rfl
@[simp] theorem apply_rx (b : Byte) (s : Mbcore) : (AgentStep.rx b).apply s = s.rxStep b := rfl
@[simp] theorem apply_reset (s : Mbcore) : AgentStep.reset.apply s = s.resetState := rfl

theorem runAgents_append (s : Mbcore) (l k : List AgentStep) : runAgents s (l ++ k) = runAgents (runAgents s l) k := by
  induction l generalizing s with
  | nil => rfl
  | cons a l ih => exact ih (a.apply s)

/-- The fields of an encoded input word. -/
@[simp] theorem makeInput_fields (a b c r : Bool) (d : Byte) :
    inputRst (makeInput a b c r d) = a ∧ inputTick (makeInput a b c r d) = b ∧
      inputRxValid (makeInput a b c r d) = c ∧ inputTxReady (makeInput a b c r d) = r ∧
      inputRxData (makeInput a b c r d) = d := by
  refine ⟨?_, ?_, ?_, ?_, ?_⟩
  · cases a <;> cases b <;> cases c <;> cases r <;> simp [inputRst, makeInput]
  · cases a <;> cases b <;> cases c <;> cases r <;> simp [inputTick, makeInput]
  · cases a <;> cases b <;> cases c <;> cases r <;> simp [inputRxValid, makeInput]
  · cases a <;> cases b <;> cases c <;> cases r <;> simp [inputTxReady, makeInput]
  · apply BitVec.eq_of_getLsbD_eq
    intro i hi
    interval_cases i <;> cases a <;> cases b <;> cases c <;> cases r <;> simp [inputRxData, makeInput]

/-- No meaning stops: every instruction answers a next state in every state (rules R130, R145). -/
theorem exec_next (i : Instr) (s : State) : ∃ t, exec i s = .next t := by
  cases i <;> exact ⟨_, rfl⟩

/-- A step that answers next ran the fetched instruction and then consumed it. -/
theorem step_next {s t : State} (h : step s = .next t) : ∃ u, exec s.fetch s = .next u ∧ t = u.consume := by
  unfold step at h
  cases he : exec s.fetch s with
  | next u => rw [he] at h; exact ⟨u, rfl, by simpa using h.symm⟩
  | fault f => rw [he] at h; simp at h
  | refused r => rw [he] at h; simp at h

/-- Consuming is a move of the environment only; MBCORE stays as it is. -/
theorem consume_eq (s : State) :
    s.consume = { s with
      stimuli := s.stimuli.tail
      envCycle := if s.stimuli = [] then s.envCycle + 1 else s.envCycle } := by
  cases h : s.stimuli <;> simp [State.consume, h, State.setEnvCycle, State.setStimuli]

@[simp] theorem consume_toMbcore (s : State) : s.consume.toMbcore = s.toMbcore := by rw [consume_eq]

end Sys2Proof.Machine
end

