-- ==== Sys2Proof/Laws/PerInstr.lean ====
section
/-! SUPPORT. Statements about every instruction, made per instruction. Family TableRow: the encoder's word of an
instruction has the width and the fixed bits of its row of spec/opcode_table.json. -/

namespace Sys2Proof.Laws

/-- The family's statement. -/
def TableRow.Statement (i : Instr) : Prop := i.row.fits (encode i) = true

/-- An input word fits a row when its fixed bits are the row's. -/
theorem fits_input (w : InputWord) (m b : Nat) (h : w &&& BitVec.ofNat 12 m = BitVec.ofNat 12 b) (hm : m < 4096)
    (hb : b < 4096) : Row.fits { width := 12, mask := m, bits := b } (.input w) = true := by
  have := congrArg BitVec.toNat h
  simp only [BitVec.toNat_and, BitVec.toNat_ofNat] at this
  rw [Nat.mod_eq_of_lt (by simpa using hm), Nat.mod_eq_of_lt (by simpa using hb)] at this
  simp [Row.fits, TableWord.width, TableWord.toNat, this]

/-- The operation bits of an encoded input word (rule R50). -/
theorem makeInput_operation (a b c r : Bool) (d : Byte) :
    makeInput a b c r d &&& 0xE00#12 =
      (if a then 0x800#12 else 0#12) ||| (if b then 0x400#12 else 0#12) ||| (if c then 0x200#12 else 0#12) := by
  apply BitVec.eq_of_getLsbD_eq
  intro i hi
  interval_cases i <;> cases a <;> cases b <;> cases c <;> cases r <;> simp [makeInput]

/-- The reset bit of an encoded input word (rule R50). -/
theorem makeInput_reset (a b c r : Bool) (d : Byte) :
    makeInput a b c r d &&& 0x800#12 = if a then 0x800#12 else 0#12 := by
  apply BitVec.eq_of_getLsbD_eq
  intro i hi
  interval_cases i <;> cases a <;> cases b <;> cases c <;> cases r <;> simp [makeInput]

/-- The constant bytes of an encoded response frame (rule R48). -/
theorem makeResponse_constants (b0 b1 b2 h l c d : Byte) :
    makeResponse b0 b1 b2 h l c d &&& 0xFFFFFF00000000#56 = makeResponse b0 b1 b2 0 0 0 0 := by
  apply BitVec.eq_of_getLsbD_eq
  intro i hi
  interval_cases i <;> simp [makeResponse]

theorem TableRow.rst : TableRow.Statement (.rst) := rfl
theorem TableRow.nop (r : Bool) : TableRow.Statement (.nop r) := fits_input _ _ _ (by simp [makeInput_operation]) (by decide) (by decide)
theorem TableRow.tick (r : Bool) : TableRow.Statement (.tick r) := fits_input _ _ _ (by simp [makeInput_operation]) (by decide) (by decide)
theorem TableRow.rx (r : Bool) (d : Byte) : TableRow.Statement (.rx r d) := fits_input _ _ _ (by simp [makeInput_operation]) (by decide) (by decide)
theorem TableRow.tickrx (r : Bool) (d : Byte) : TableRow.Statement (.tickrx r d) := fits_input _ _ _ (by simp [makeInput_operation]) (by decide) (by decide)
theorem TableRow.idle : TableRow.Statement (.idle) := rfl
theorem TableRow.tx0 : TableRow.Statement (.tx0) := rfl
theorem TableRow.tx1 : TableRow.Statement (.tx1) := rfl
theorem TableRow.tx2 : TableRow.Statement (.tx2) := rfl
theorem TableRow.tx3 : TableRow.Statement (.tx3) := rfl
theorem TableRow.tx4 : TableRow.Statement (.tx4) := rfl
theorem TableRow.tx5 : TableRow.Statement (.tx5) := rfl
theorem TableRow.tx6 : TableRow.Statement (.tx6) := rfl
theorem TableRow.tx7 : TableRow.Statement (.tx7) := rfl
theorem TableRow.txend : TableRow.Statement (.txend) := rfl
theorem TableRow.wait : TableRow.Statement (.wait) := rfl
theorem TableRow.gate : TableRow.Statement (.gate) := rfl
theorem TableRow.crc0 : TableRow.Statement (.crc0) := rfl
theorem TableRow.crc1 : TableRow.Statement (.crc1) := rfl
theorem TableRow.crc2 : TableRow.Statement (.crc2) := rfl
theorem TableRow.crc3 : TableRow.Statement (.crc3) := rfl
theorem TableRow.crc4 : TableRow.Statement (.crc4) := rfl
theorem TableRow.cmp : TableRow.Statement (.cmp) := rfl
theorem TableRow.clr : TableRow.Statement (.clr) := rfl
theorem TableRow.requestFrame : TableRow.Statement (.requestFrame) := rfl
theorem TableRow.responseFrame (h l c d : Byte) : TableRow.Statement (.responseFrame h l c d) := by
  have e := congrArg BitVec.toNat (makeResponse_constants Config.slaveAddr Config.funcCode Config.byteCount h l c d)
  have k : (makeResponse Config.slaveAddr Config.funcCode Config.byteCount 0 0 0 0).toNat = 0x01030200000000 := by decide
  rw [BitVec.toNat_and, k] at e
  simpa [TableRow.Statement, Row.fits, encode, Instr.row, TableWord.width, TableWord.toNat, Config.respLen] using e

end Sys2Proof.Laws
end

