-- ==== Sys2Proof/Tests/Slice0.lean ====
section
/-! SUPPORT. Tests of MBCORE. Every expected value is the spec's: V<n> and P<n> are 95_test_vectors.md, R<n> a rule. The
theorems `witness_…` show, for an obligation with hypotheses, concrete inputs that meet them. -/

namespace Sys2Proof.Tests

open Sys2Proof.Machine

/-- The next state of an outcome. -/
def result : Host.Outcome State Fault Refusal → Option State
  | .next t => some t
  | .fault _ => none
  | .refused _ => none

/-- Bytes stored at the indices from 0 on. -/
def stored (bs : List Byte) : Memory := (List.range bs.length).zip bs

/-- The frame of V3: 300, with its checksum. -/
def frame300 : List Byte := [0x01#8, 0x03#8, 0x02#8, 0x01#8, 0x2C#8, 0xB8#8, 0x09#8]

/-! ## Encodings -/

/-- V27, every row. -/
theorem test_input_words :
    decodeTableWord 16 0b0000_00000000 = some (.nop false) ∧ decodeTableWord 16 0b0000_11111111 = some (.nop false) ∧
    decodeTableWord 16 0b0001_10101011 = some (.nop true) ∧ decodeTableWord 16 0b0010_00101100 = some (.rx false 0x2C#8) ∧
    decodeTableWord 16 0b0011_00101100 = some (.rx true 0x2C#8) ∧ decodeTableWord 16 0b0100_00000000 = some (.tick false) ∧
    decodeTableWord 16 0b0101_11111111 = some (.tick true) ∧
    decodeTableWord 16 0b0110_00101100 = some (.tickrx false 0x2C#8) ∧
    decodeTableWord 16 0b0111_11111111 = some (.tickrx true 0xFF#8) ∧ decodeTableWord 16 0b1000_00000000 = some .rst ∧
    decodeTableWord 16 0b1111_11111111 = some .rst ∧ decodeTableWord 16 0b1010_00000001 = some .rst := by decide

/-- The 19 codes of rule R52. -/
theorem test_sequencer_codes :
    decodeTableWord 8 0b00000 = some .idle ∧ decodeTableWord 8 0b00001 = some .tx0 ∧
    decodeTableWord 8 0b00010 = some .tx1 ∧ decodeTableWord 8 0b00011 = some .tx2 ∧
    decodeTableWord 8 0b00100 = some .tx3 ∧ decodeTableWord 8 0b00101 = some .tx4 ∧
    decodeTableWord 8 0b00110 = some .tx5 ∧ decodeTableWord 8 0b00111 = some .tx6 ∧
    decodeTableWord 8 0b01000 = some .tx7 ∧ decodeTableWord 8 0b01001 = some .txend ∧
    decodeTableWord 8 0b01010 = some .wait ∧ decodeTableWord 8 0b01011 = some .gate ∧
    decodeTableWord 8 0b01100 = some .crc0 ∧ decodeTableWord 8 0b01101 = some .crc1 ∧
    decodeTableWord 8 0b01110 = some .crc2 ∧ decodeTableWord 8 0b01111 = some .crc3 ∧
    decodeTableWord 8 0b10000 = some .crc4 ∧ decodeTableWord 8 0b10001 = some .cmp ∧
    decodeTableWord 8 0b10010 = some .clr ∧ decode (.seqCode 0b10011#5) = .error .codeNamesNoState ∧
    decode (.seqCode 0b11111#5) = .error .codeNamesNoState := by decide

/-- The patterns of rules R46 and R48, byte 0 leftmost; a wrong bit is refused by name. -/
theorem test_frames :
    decodeTableWord 64 0b00000001_00000011_00000000_00000000_00000000_00000001_10000100_00001010 = some .requestFrame ∧
    decode (.request 0x010300000001840B#64) = .error .notTheRequestFrame ∧
    decodeTableWord 56 0b00000001_00000011_00000010_00000001_00101100_10111000_00001001 =
      some (.responseFrame 0x01#8 0x2C#8 0xB8#8 0x09#8) ∧
    decode (.response 0x010304012CB809#56) = .error .notAResponseFrame := by decide

/-- Rule R60: the words of the notation. -/
theorem test_encode_notation :
    encode .rst = .input 0x800#12 ∧ encode (.nop false) = .input 0x000#12 ∧ encode (.nop true) = .input 0x100#12 ∧
    encode (.tick true) = .input 0x500#12 ∧ encode (.rx true 0x2C#8) = .input 0x32C#12 ∧
    encode (.tickrx false 0x2C#8) = .input 0x62C#12 := by decide

/-- One instruction for each row of spec/opcode_table.json. -/
def samples : List Instr :=
  [.rst, .nop false, .tick false, .rx false 0, .tickrx false 0, .idle, .tx0, .tx1, .tx2, .tx3, .tx4, .tx5, .tx6, .tx7,
   .txend, .wait, .gate, .crc0, .crc1, .crc2, .crc3, .crc4, .cmp, .clr, .requestFrame, .responseFrame 0 0 0 0]

/-- No two rows of one width overlap (rules R50, R57). -/
theorem test_rows_do_not_overlap :
    (samples.map Instr.row).Pairwise fun a b =>
      a.width ≠ b.width ∨ (a.bits &&& (a.mask &&& b.mask)) ≠ (b.bits &&& (a.mask &&& b.mask)) := by decide +kernel

/-- The one ill-formed kind of term: a response frame whose checksum is not the computed one (V5, rows 2, 3 and 4); the
frame of V3 passes. -/
theorem test_wellFormed :
    (Instr.responseFrame 0x01#8 0x2C#8 0xB9#8 0x09#8).wellFormed = false ∧
    (Instr.responseFrame 0x01#8 0x2C#8 0xB8#8 0x08#8).wellFormed = false ∧
    (Instr.responseFrame 0x01#8 0x2C#8 0x09#8 0xB8#8).wellFormed = false ∧
    (Instr.responseFrame 0x01#8 0x2C#8 0xB8#8 0x09#8).wellFormed = true := by decide +kernel

/-- Rule R182's constraints on the parameters, and that the widths of rule R5 hold the ranges it names. -/
theorem test_parameters :
    Config.reqLen = requestBytes.length ∧ Config.respLen = frame300.length ∧ Config.crcLen = 5 ∧
    7 ≤ Config.decodeMinCount ∧ Config.decodeMinCount ≤ Config.rxbufLen ∧
    Config.crcLen + 2 ≤ Config.decodeMinCount ∧ Config.readyExceed < Config.rxbufLen ∧
    Config.rtoLimit ≤ Config.rtoCap ∧ Config.rtoCap < 2 ^ Config.wRto ∧ Config.pollThreshold < 2 ^ Config.wPtc ∧
    Config.rxbufLen < 2 ^ Config.wCount ∧ microOps.length ≤ 2 ^ Config.wQ := by decide

/-! ## The CRC engine -/

/-- V10: the sums of the two tables and some entries. -/
theorem test_tables :
    (tabLoRows.map List.sum).sum = 24704 ∧ (tabHiRows.map List.sum).sum = 32640 ∧ tabHi 0x7D#8 = 0x21#8 ∧
    tabLo 0x7D#8 = 0xC0#8 ∧ tgen 0xFE#8 = 0x8081#16 ∧ tgen 0xF1#8 = 0x84C1#16 := by decide +kernel

/-- V1, V2, V3, V11. -/
theorem test_crc16 :
    crc16 (requestBytes.take 6) = 0x0A84#16 ∧ crc16 requestBytes = 0x0000#16 ∧ crc16 (frame300.take 5) = 0x09B8#16 ∧
    crc16 [0x11#8, 0x03#8, 0x00#8, 0x6B#8, 0x00#8, 0x03#8] = 0x8776#16 := by decide +kernel

/-- V2: the bit-serial form, first byte. -/
theorem test_crc_serial : crcByteSerial 0xFFFF#16 0x01#8 = 0x807E#16 := by decide

/-! ## One step of each kind -/

/-- V26 row 16: reset in CRC2; RXBUF keeps its bytes (rule R165). -/
theorem test_rst :
    result (exec .rst { State.reset with q := .crc2, ptc := 5#7, rto := 12#7, rxCount := 7#4, dataAvail := true,
                                         crcHi := 0x12#8, rxbuf := stored frame300 }) =
      some { State.reset with rxbuf := stored frame300 } := by decide

/-- Rule R133's example, and V26 row 13. -/
theorem test_nop :
    result (exec (.nop false) State.reset) = some State.reset ∧
    result (exec (.nop false) { State.reset with q := .tx3, dir := true }) =
      some { State.reset with q := .tx3, dir := true } := by decide

/-- V26 rows 1 and 4. -/
theorem test_tick :
    result (exec (.tick false) { State.reset with q := .txend, ptc := 40#7, pollFlag := true, rto := 55#7,
                                                  rxCount := 3#4, dataAvail := true, dir := true }) =
      some { State.reset with ptc := 41#7, rto := 1#7, dataAvail := true } ∧
    result (exec (.tick false) { State.reset with q := .txend, ptc := 100#7, pollFlag := true, rto := 55#7, dir := true }) =
      some { State.reset with pollFlag := true, rto := 1#7 } := by decide

/-- V20, V21: the two counters at their ends. -/
theorem test_tick_counters :
    (Mbcore.tickStep { Mbcore.reset with ptc := 99#7, rto := 9#7 }).ptc = 100#7 ∧
    (Mbcore.tickStep { Mbcore.reset with ptc := 99#7, rto := 9#7 }).rto = 10#7 ∧
    (Mbcore.tickStep { Mbcore.reset with rto := 100#7 }).rto = 100#7 := by decide

/-- V26 rows 2 and 5. -/
theorem test_rx :
    result (exec (.rx false 0x01#8) { State.reset with q := .txend, ptc := 40#7, pollFlag := true, rto := 55#7,
                                                       rxCount := 3#4, dataAvail := true, dir := true }) =
      some { State.reset with ptc := 40#7, rxCount := 1#4, dataAvail := true, rxbuf := [(0, 0x01#8)] } ∧
    result (exec (.rx false 0x01#8) { State.reset with q := .clr, ptc := 12#7, rto := 11#7, rxCount := 7#4,
                                                       dataAvail := true, presUpd := true }) =
      some { State.reset with ptc := 12#7, rxCount := 1#4, dataAvail := true, rxbuf := [(0, 0x01#8)] } := by decide

/-- V22, last two rows: the ninth byte is stored, a tenth is dropped. -/
theorem test_rx_full :
    Mbcore.rxStep { Mbcore.reset with rxCount := 8#4, rto := 5#7 } 0x66#8 =
      { Mbcore.reset with rxCount := 9#4, dataAvail := true, rxbuf := [(8, 0x66#8)] } ∧
    Mbcore.rxStep { Mbcore.reset with rxCount := 9#4, rto := 5#7 } 0x77#8 =
      { Mbcore.reset with rxCount := 9#4, dataAvail := true } := by decide

/-- V26 rows 3 and 11. -/
theorem test_tickrx :
    result (exec (.tickrx false 0x01#8) { State.reset with q := .txend, ptc := 40#7, pollFlag := true, rto := 55#7,
                                                           rxCount := 3#4, dataAvail := true, dir := true }) =
      some { State.reset with ptc := 41#7, rxCount := 1#4, dataAvail := true, rxbuf := [(0, 0x01#8)] } ∧
    result (exec (.tickrx false 0x01#8) { State.reset with ptc := 100#7, rto := 100#7 }) =
      some { State.reset with pollFlag := true, rxCount := 1#4, dataAvail := true, rxbuf := [(0, 0x01#8)] } := by decide

/-- Rule R84: POLL_FLAG goes first (V26 row 12), then DATA_AVAIL. -/
theorem test_idle :
    result (exec .idle { State.reset with ptc := 5#7, pollFlag := true, rxCount := 1#4, dataAvail := true }) =
      some { State.reset with ptc := 5#7, pollFlag := true, rxCount := 1#4, dataAvail := true, dir := true, q := .tx0 } ∧
    result (exec .idle { State.reset with dataAvail := true }) = some { State.reset with dataAvail := true, q := .wait } := by
  decide

/-- V26 rows 13 to 15 and rule R85: TX0 to TX7 with tx_ready = 1 move on, in order. -/
theorem test_tx :
    [Instr.tx0, .tx1, .tx2, .tx3, .tx4, .tx5, .tx6, .tx7].map
        (fun i => (result (exec i { State.reset with dir := true, stimuli := [.word 0x100#12] })).map (·.q)) =
      [some .tx1, some .tx2, some .tx3, some .tx4, some .tx5, some .tx6, some .tx7, some .txend] := by decide

/-- The same with tx_ready = 0: each stays. -/
theorem test_tx_blocked :
    [Instr.tx0, .tx1, .tx2, .tx3, .tx4, .tx5, .tx6, .tx7].map
        (fun i => (result (exec i { State.reset with dir := true, stimuli := [.word 0x000#12] })).map (·.q)) =
      [some .tx0, some .tx1, some .tx2, some .tx3, some .tx4, some .tx5, some .tx6, some .tx7] := by decide

/-- Rule R87's example. -/
theorem test_txend :
    result (exec .txend { State.reset with dir := true, pollFlag := true, rxCount := 8#4, dataAvail := true, q := .txend }) =
      some { State.reset with dataAvail := true } := by decide

/-- V23. -/
theorem test_wait :
    [(1, 0), (7, 9), (7, 10), (0, 10), (8, 0), (9, 0), (8, 10), (3, 100)].map
        (fun p : Nat × Nat => (result (exec .wait
          { State.reset with q := .wait, rxCount := BitVec.ofNat 4 p.1, rto := BitVec.ofNat 7 p.2 })).map (·.q)) =
      [some .wait, some .wait, some .gate, some .gate, some .gate, some .gate, some .gate, some .gate] := by decide

/-- V24, the rows whose buffer is read. -/
theorem test_gate :
    [(6, 0x01#8, 0x03#8, 0x02#8), (7, 0x01#8, 0x03#8, 0x02#8), (9, 0x01#8, 0x03#8, 0x02#8), (7, 0x02#8, 0x03#8, 0x02#8),
      (7, 0x01#8, 0x83#8, 0x02#8), (7, 0x01#8, 0x03#8, 0x04#8), (7, 0x00#8, 0x00#8, 0x00#8)].map
        (fun p : Nat × Byte × Byte × Byte => (result (exec .gate { State.reset with
          q := .gate, rxCount := BitVec.ofNat 4 p.1, crcHi := 0x00#8,
          rxbuf := stored [p.2.1, p.2.2.1, p.2.2.2] })).map fun t => (t.q, t.crcHi)) =
      [some (.clr, 0x00#8), some (.crc0, 0xFF#8), some (.crc0, 0xFF#8), some (.clr, 0x00#8), some (.clr, 0x00#8),
        some (.clr, 0x00#8), some (.clr, 0x00#8)] := by decide

/-- V3: the five CRC steps of the frame of 300 (rule R114's example). -/
theorem test_crc_states :
    [(Instr.crc0, 0xFF#8, 0xFF#8), (.crc1, 0x80#8, 0x7E#8), (.crc2, 0x21#8, 0x40#8), (.crc3, 0x31#8, 0xA1#8),
      (.crc4, 0x78#8, 0x31#8)].map
        (fun p : Instr × Byte × Byte => (result (exec p.1 { State.reset with
          crcHi := p.2.1, crcLo := p.2.2, rxCount := 7#4, rxbuf := stored frame300 })).map
            fun t => (t.q, t.crcPair.value)) =
      [some (.crc1, 0x807E#16), some (.crc2, 0x2140#16), some (.crc3, 0x31A1#16), some (.crc4, 0x7831#16),
        some (.cmp, 0x09B8#16)] := by decide +kernel

/-- V25 rows 1 and 4: a match, and the checksum bytes exchanged. -/
theorem test_cmp :
    (result (exec .cmp { State.reset with q := .cmp, crcHi := 0x09#8, crcLo := 0xB8#8, rxbuf := stored frame300 })).map
        (fun t => (t.q, t.pressure, t.presUpd)) = some (.clr, 300#16, true) ∧
    (result (exec .cmp { State.reset with
        q := .cmp, crcHi := 0x09#8, crcLo := 0xB8#8, pressure := 300#16,
        rxbuf := stored [0x01#8, 0x03#8, 0x02#8, 0x01#8, 0x2C#8, 0x09#8, 0xB8#8] })).map
        (fun t => (t.q, t.pressure, t.presUpd)) = some (.clr, 300#16, false) := by decide

/-- Rule R120's example. -/
theorem test_clr :
    result (exec .clr { State.reset with q := .clr, dataAvail := true, rxCount := 7#4, rto := 10#7, presUpd := true }) =
      some { State.reset with rto := 10#7 } := by decide

/-- P1, cycles 103 to 110: the request frame from TX0, and the bytes transferred (V1). -/
theorem test_requestFrame :
    result (exec .requestFrame { State.reset with q := .tx0, dir := true, pollFlag := true, rto := 100#7 }) =
      some { State.reset with q := .txend, dir := true, pollFlag := true, rto := 100#7 } ∧
    transfers { Mbcore.reset with q := .tx0 } (readyWords 8) =
      [0x01#8, 0x03#8, 0x00#8, 0x00#8, 0x00#8, 0x01#8, 0x84#8, 0x0A#8] := by decide

/-- P2, cycles 1 to 7. -/
theorem test_responseFrame :
    result (exec (.responseFrame 0x01#8 0x2C#8 0xB8#8 0x09#8) State.reset) =
      some { State.reset with q := .wait, rxCount := 7#4, dataAvail := true, rxbuf := stored frame300 } := by decide

/-- V14 and P1: outputs in TX6, and the characters of 300 and 65535. -/
theorem test_outputs :
    (Mbcore.outputs { Mbcore.reset with q := .tx6, dir := true, pressure := 300#16 }).txData = 0x84#8 ∧
    (Mbcore.outputs { Mbcore.reset with pressure := 300#16 }).dispChars = [0x30#8, 0x30#8, 0x33#8, 0x30#8, 0x30#8] ∧
    (Mbcore.outputs { Mbcore.reset with pressure := 65535#16 }).dispChars = [0x36#8, 0x35#8, 0x35#8, 0x33#8, 0x35#8] ∧
    (Mbcore.outputs Mbcore.reset).crcOut = 0xFFFF#16 := by decide

/-- Rules R139, R140: a tick before TXEND loses the poll that MBCORE's order keeps (V26 row 4); both are runs of the looser
model. -/
theorem test_loose_orders :
    let s : Mbcore := { Mbcore.reset with q := .txend, ptc := 100#7, pollFlag := true, dir := true }
    (runAgents s [.tick, .seq false]).pollFlag = false ∧ (runAgents s (cycleAgents 0x400#12)).pollFlag = true := by decide

/-! ## The first instruction after reset -/

/-- A placed row of each format is fetched, and the step after reset runs it. -/
theorem test_place :
    (State.reset.withFetchWord 16 0x22C).fetch = .rx false 0x2C#8 ∧
    (State.reset.withFetchWord 8 0b01001).q = .txend ∧ (State.reset.withFetchWord 8 0b01001).fetch = .nop false ∧
    (State.reset.withFetchWord 64 0x010300000001840A).fetch = .requestFrame ∧
    (State.reset.withFetchWord 56 0x010302012CB809).fetch = .responseFrame 0x01#8 0x2C#8 0xB8#8 0x09#8 := by decide

theorem test_step_after_reset :
    result (step (State.reset.withFetchWord 16 0x22C)) =
      some { State.reset with rxCount := 1#4, dataAvail := true, rxbuf := [(0, 0x2C#8)] } ∧
    result (step (State.reset.withFetchWord 8 0b01011)) = some { State.reset with q := .clr } ∧
    result (step (State.reset.withFetchWord 64 0x010300000001840A)) = some { State.reset with q := .txend } ∧
    result (step (State.reset.withFetchWord 56 0x010302012CB809)) =
      some { State.reset with q := .wait, rxCount := 7#4, dataAvail := true, rxbuf := stored frame300 } := by decide

/-! ## Witnesses: the hypotheses of the obligations are met -/

/-- `noReset` of a written program, by running over its words. -/
theorem noReset_of (ws : List InputWord) (h : ws.all (fun w => !inputRst w) = true) : noReset ws := fun w hw => by
  simpa using List.all_eq_true.mp h w hw

theorem witness_InputWordSelectsOneOperation :
    0xFFF#12 &&& 0x800#12 = 0x800#12 ∧ 0x1FF#12 &&& 0xE00#12 = 0x000#12 ∧ 0x4FF#12 &&& 0xE00#12 = 0x400#12 ∧
    0x3FF#12 &&& 0xE00#12 = 0x200#12 ∧ 0x7FF#12 &&& 0xE00#12 = 0x600#12 := by decide

theorem witness_SequencerCodesNameTheStates :
    (0#5).toNat ≤ 18 ∧ (18#5).toNat ≤ 18 ∧ 19 ≤ (19#5).toNat ∧ 19 ≤ (31#5).toNat ∧
    SeqState.clr.code = SeqState.clr.code := by decide

theorem witness_IgnoredFieldsHaveNoEffect :
    (inputRst 0x800#12 = true ∧ inputRst 0xFFF#12 = true) ∧
    (0x5FF#12 &&& 0xF00#12 = 0x500#12 &&& 0xF00#12 ∧ inputRxValid 0x5FF#12 = false) ∧
    (Mbcore.reset.q.txIndex = none ∧ 0x700#12 &&& 0xEFF#12 = 0x600#12 &&& 0xEFF#12) := by decide

/-- The free word's clause too: whatever the free word is, its instruction answers a next state. -/
theorem witness_StepRunsTheFetchedInstruction :
    (∃ t, exec (decodeInput 0x201#12) { State.reset with stimuli := [.word 0x201#12, .request] } = .next t) ∧
    (State.reset.stimuli = [] ∧ ∃ t, exec (decodeInput (Config.envInput State.reset.envCycle)) State.reset = .next t) ∧
    (∃ t, exec .requestFrame { State.reset with stimuli := [.request] } = .next t) ∧
    (∃ t, exec (.responseFrame 0 0 0 0) { State.reset with stimuli := [.response 0 0 0 0] } = .next t) :=
  ⟨exec_next _ _, ⟨rfl, exec_next _ _⟩, exec_next _ _, exec_next _ _⟩

theorem witness_PlacedWordRunsNext :
    (∃ t, exec (decodeInput 0xFFF#12) State.reset = .next t) ∧
    (∃ t, exec (.nop false) { State.reset with q := .clr } = .next t) ∧
    (∃ t, exec .requestFrame { State.reset with q := .tx0 } = .next t) ∧
    (∃ t, exec (.responseFrame 0xFF#8 0x00#8 0xFF#8 0x00#8) State.reset = .next t) :=
  ⟨exec_next _ _, exec_next _ _, exec_next _ _, exec_next _ _⟩

theorem witness_RunOfStepsIsRunOfCycles :
    ({ State.reset with stimuli := [.word 0x400#12, .word 0x201#12, .request] } : State).stimuli =
      [0x400#12, 0x201#12].map .word ++ [.request] := rfl

theorem witness_NeverHaltsAndQuiescentStatesStay :
    Mbcore.reset.quiescent ∧ inputRst 0x400#12 = false ∧ cycle Mbcore.reset 0x400#12 ≠ Mbcore.reset := by decide

theorem witness_ResetOperation :
    (0x800#12 : InputWord).getLsbD 11 = true ∧ ∀ v ∈ ([0xFFF#12, 0x800#12] : List InputWord), v.getLsbD 11 = true :=
  ⟨by decide, List.forall_mem_cons.mpr ⟨by decide, List.forall_mem_singleton.mpr (by decide)⟩⟩

theorem witness_NopPerformsTheSelectedMicroOperation : State.reset.q.txIndex = none := rfl

theorem witness_CollisionsInOneCycle :
    inputRst 0x400#12 = false ∧ inputTick 0x400#12 = true ∧ inputRxValid 0x400#12 = false ∧
    inputRst 0x6FF#12 = false ∧ inputTick 0x6FF#12 = true ∧ inputRxValid 0x6FF#12 = true ∧
    inputRst 0x000#12 = false ∧ inputTick 0x000#12 = false ∧
    ({ State.reset with q := .txend, ptc := 100#7 } : State).q = .txend ∧
    ({ State.reset with q := .txend, ptc := 100#7 } : State).ptc = 100#7 ∧
    ({ State.reset with q := .clr } : State).q = .clr := by decide

theorem witness_IdleChooses :
    ({ State.reset with pollFlag := true } : State).pollFlag = true ∧
    (({ State.reset with dataAvail := true } : State).pollFlag = false ∧
      ({ State.reset with dataAvail := true } : State).dataAvail = true) ∧
    (State.reset.pollFlag = false ∧ State.reset.dataAvail = false) := by decide

theorem witness_RequestBytesGoOutInOrder :
    ({ Mbcore.reset with q := .tx0 } : Mbcore).q = .tx0 ∧ noReset (0x601#12 :: List.replicate 8 0x100#12) ∧
    readyCount (0x601#12 :: List.replicate 8 0x100#12) = 8 := ⟨rfl, noReset_of _ (by decide), by decide⟩

theorem witness_ResetMeetsTheInvariants :
    ({ State.reset with stimuli := [.word 0x7FF#12], envCycle := 5 } : State).toMbcore = State.reset.toMbcore := rfl

theorem witness_RequestFrameIsSent : ({ State.reset with q := .tx0 } : State).q = .tx0 := rfl

theorem witness_SendHangsWithoutReady :
    ({ Mbcore.reset with q := .tx7, pollFlag := true } : Mbcore).q.txIndex.isSome = true ∧
    noReset [0x601#12, 0x000#12] ∧ readyCount [0x601#12, 0x000#12] = 0 ∧
    ({ Mbcore.reset with q := .tx7, pollFlag := true } : Mbcore).pollFlag = true :=
  ⟨rfl, noReset_of _ (by decide), by decide, rfl⟩

theorem witness_PollCounterCountsModulo101 :
    ({ Mbcore.reset with ptc := 99#7 } : Mbcore).ptc.toNat ≤ 100 ∧ noReset [0x400#12] ∧ inputRst 0x400#12 = false ∧
    inputTick 0x400#12 = true ∧ (runWords { Mbcore.reset with ptc := 99#7 } [0x400#12]).ptc = 100#7 :=
  ⟨by decide, noReset_of _ (by decide), by decide, by decide, by decide⟩

theorem witness_WaitExitCondition :
    (7 < ({ Mbcore.reset with q := .wait, rxCount := 8#4 } : Mbcore).rxCount.toNat) ∧
    (10 ≤ ({ Mbcore.reset with q := .wait, rto := 10#7 } : Mbcore).rto.toNat) ∧
    ¬ (7 < ({ Mbcore.reset with q := .wait, rxCount := 7#4, rto := 9#7 } : Mbcore).rxCount.toNat ∨
      10 ≤ ({ Mbcore.reset with q := .wait, rxCount := 7#4, rto := 9#7 } : Mbcore).rto.toNat) ∧
    ({ Mbcore.reset with q := .wait, rxCount := 7#4, rto := 9#7 } : Mbcore).q = .wait ∧ inputRst 0x255#12 = false := by decide

theorem witness_BufferWrittenOnlyAtCount :
    (cycle { Mbcore.reset with rxbuf := [(0, 0x00#8)] } 0x2FF#12).buf 0 ≠
      ({ Mbcore.reset with rxbuf := [(0, 0x00#8)] } : Mbcore).buf 0 ∧
    (cycle { Mbcore.reset with rxCount := 8#4, rxbuf := [(8, 0x00#8)] } 0x2FF#12).buf 8 ≠
      ({ Mbcore.reset with rxCount := 8#4, rxbuf := [(8, 0x00#8)] } : Mbcore).buf 8 := by decide

theorem witness_ResponseFrameIsReceived :
    State.reset.q = .idle ∧ State.reset.pollFlag = false ∧ State.reset.rxCount = 0#4 := by decide

theorem witness_WaitHangsWithoutTicks :
    ({ Mbcore.reset with q := .wait, rxCount := 6#4, rto := 9#7 } : Mbcore).q = .wait ∧
    ({ Mbcore.reset with q := .wait, rxCount := 6#4, rto := 9#7 } : Mbcore).rto.toNat < 10 ∧
    noReset [0x000#12, 0x255#12] ∧ tickCount [0x000#12, 0x255#12] = 0 ∧
    ({ Mbcore.reset with q := .wait, rxCount := 6#4, rto := 9#7 } : Mbcore).rxCount.toNat +
      byteCountOf [0x000#12, 0x255#12] ≤ 7 := ⟨rfl, by decide, noReset_of _ (by decide), by decide, by decide⟩

theorem witness_WaitEndsAfterTenTicks :
    ({ Mbcore.reset with q := .wait } : Mbcore).q = .wait ∧ noReset (List.replicate 10 0x400#12 ++ [0x2FF#12]) ∧
    byteCountOf (List.replicate 10 0x400#12) = 0 ∧ 10 ≤ tickCount (List.replicate 10 0x400#12) :=
  ⟨rfl, noReset_of _ (by decide), by decide, by decide⟩

theorem witness_Crc16IsAffine : [0x01#8, 0x03#8].length = [0x80#8, 0x01#8].length := rfl

theorem witness_EverySingleBitFlipIsCaught : frame300.length = 7 ∧ frameChecks frame300 ∧ 6 < 7 ∧ 7 < 8 := by decide +kernel

theorem witness_GateChecksCountAndHeader :
    (let s : State := { State.reset with rxCount := 7#4, rxbuf := stored frame300 }
     7 ≤ s.rxCount.toNat ∧ s.buf 0 = 0x01#8 ∧ s.buf 1 = 0x03#8 ∧ s.buf 2 = 0x02#8) ∧
    ¬ (7 ≤ State.reset.rxCount.toNat ∧ State.reset.buf 0 = 0x01#8 ∧ State.reset.buf 1 = 0x03#8 ∧
      State.reset.buf 2 = 0x02#8) := ⟨by decide, fun h => absurd h.1 (by decide)⟩

theorem witness_CmpLatchesPressureOnMatch :
    (let s : State := { State.reset with crcHi := 0x09#8, crcLo := 0xB8#8, rxbuf := stored frame300 }
     s.crcHi.toNat * 256 + s.crcLo.toNat = (s.buf 5).toNat + 256 * (s.buf 6).toNat) ∧
    (let s : State := { State.reset with crcHi := 0xB8#8, crcLo := 0x09#8, rxbuf := stored frame300 }
     s.crcHi.toNat * 256 + s.crcLo.toNat ≠ (s.buf 5).toNat + 256 * (s.buf 6).toNat) := by decide

theorem witness_ValidFramesAndOnlyTheyDecode :
    (let s : Mbcore := { Mbcore.reset with q := .gate, rxCount := 7#4, rxbuf := stored frame300 }
     s.q = .gate ∧ s.presUpd = false ∧ s.validFrame) ∧
    (let s : Mbcore := { Mbcore.reset with q := .gate, rxCount := 6#4, rxbuf := stored frame300 }
     s.q = .gate ∧ s.presUpd = false ∧ ¬ s.validFrame) ∧
    noReset (List.replicate 7 0x601#12) ∧ (List.replicate 7 0x601#12).length = 7 :=
  ⟨by decide +kernel, by decide +kernel, noReset_of _ (by decide), rfl⟩

theorem witness_PressureChangesOnlyOnMatch :
    (cycle { Mbcore.reset with q := .cmp, crcHi := 0x09#8, crcLo := 0xB8#8, rxbuf := stored frame300 } 0x000#12).pressure ≠
      Mbcore.reset.pressure ∧
    (cycle { Mbcore.reset with pressure := 300#16 } 0x800#12).pressure ≠ 300#16 := by decide

/-- The state in CMP of P2, cycle 25. -/
def cmp300 : Mbcore :=
  { Mbcore.reset with
    q := .cmp, rxCount := 7#4, rto := 10#7, dataAvail := true, crcHi := 0x09#8, crcLo := 0xB8#8, rxbuf := stored frame300 }

theorem cmp300_validation : cmp300.ValidationHolds where
  count := fun _ _ => by decide
  header := fun _ _ => by decide
  running := fun k h => by cases (Option.some.inj h : 5 = k); decide +kernel

theorem witness_NoDisplayUpdateWithoutValidFrame :
    cmp300.ValidationHolds ∧ cmp300.presUpd = false ∧ (cycle cmp300 0x000#12).presUpd = true :=
  ⟨cmp300_validation, by decide, by decide⟩

theorem witness_OutputsFollowTheState :
    SeqState.tx0.code.toNat = (0 : Fin 8).val + 1 ∧ SeqState.tx7.code.toNat = (7 : Fin 8).val + 1 ∧
    Mbcore.reset.outputs.txValid = false := by decide

theorem witness_DigitsSpellThePressure : 0 ≤ 4 ∧ 4 ≤ 4 := by decide

/-- The invariants hold in CMP with every field away from its reset value, and a step from there answers next. -/
theorem witness_StepKeepsTheInvariants :
    let s : State := { toMbcore := cmp300, stimuli := [.word 0x601#12], envCycle := 0 }
    s.RangesHold ∧ s.BufferHolds ∧ s.ValidationHolds ∧ s.FlagsHold ∧ ∃ t, step s = .next t :=
  ⟨⟨by decide, by decide, by decide, by decide, by decide⟩, ⟨by decide, by decide⟩, cmp300_validation,
    ⟨by decide, by decide, by decide⟩, ⟨_, rfl⟩⟩

theorem witness_StaleBytesNeverMatter :
    let s : State := { toMbcore := cmp300, stimuli := [.word 0x601#12], envCycle := 0 }
    let t : State := { s with rxbuf := stored (frame300 ++ [0x55#8, 0x66#8]) }
    (∀ k, s.q.crcDone = some k → 7 ≤ s.rxCount.toNat) ∧ s.toEnvironment = t.toEnvironment ∧
    s.toMbcore.AgreeOnFresh t.toMbcore :=
  ⟨fun _ _ => by decide, rfl, ⟨rfl, by decide⟩⟩

theorem witness_TransitionsOfQ : inputRst 0x7FF#12 = false := rfl

theorem witness_SendAndDecodeAreSerialised :
    (let s : Mbcore := { Mbcore.reset with q := .txend, dir := true }
     s.dir = true ∧ (cycle s 0x000#12).dir = false) ∧
    (cycle { Mbcore.reset with q := .tx7 } 0x100#12).q = .txend ∧
    (cycle { Mbcore.reset with q := .wait, rto := 10#7 } 0x000#12).q = .gate := by decide

theorem witness_EnvironmentIsNotState :
    let s : State := { State.reset with q := .tx0, stimuli := [.word 0x100#12] }
    let s' : State := { State.reset with q := .tx0, stimuli := [.request] }
    s.toMbcore = s'.toMbcore ∧ s.txReady = s'.txReady ∧ (∃ t, exec .tx0 s = .next t) ∧ ∃ t', exec .tx0 s' = .next t' :=
  ⟨rfl, by decide, exec_next _ _, exec_next _ _⟩

/-- The property that PTC is below 128 is one that every atomic step keeps. -/
theorem witness_EveryRunIsALooserRun :
    noReset [0x7FF#12, 0x000#12] ∧
    ∀ (s : Mbcore) (a : AgentStep), s.ptc.toNat < 128 → (a.apply s).ptc.toNat < 128 :=
  ⟨noReset_of _ (by decide), fun s a _ => (a.apply s).ptc.isLt⟩

theorem witness_TxendAndClrAreSingleSteps :
    ({ Mbcore.reset with q := .txend } : Mbcore).q = .txend ∧ ({ Mbcore.reset with q := .clr } : Mbcore).q = .clr ∧
    inputRst 0x100#12 = false ∧ inputTick 0x100#12 = false ∧ inputRxValid 0x100#12 = false := by decide

end Sys2Proof.Tests
end

/-! Proofs about MBCORE's state: what SEQ, a cycle and a step make of each register, the invariants every atomic step keeps,
and the obligations of the family 10_state.md. -/

namespace Sys2Proof.Machine

/-! ## Q: the code, the index of the request byte, the phases -/

/-- Q is TXi exactly where its code is i + 1 (rule R52). -/
theorem SeqState.txIndex_eq_some_iff (q : SeqState) (i : Fin 8) : q.txIndex = some i ↔ q.code.toNat = i.val + 1 := by
  revert i
  cases q <;> decide

/-- Where a request byte is presented, Q is none of the states in which SEQ writes another register than Q. -/
theorem SeqState.ne_of_txIndex_eq_some {q : SeqState} {i : Fin 8} (h : q.txIndex = some i) :
    q ≠ .idle ∧ q ≠ .txend ∧ q ≠ .cmp ∧ q ≠ .clr := by
  refine ⟨?_, ?_, ?_, ?_⟩ <;> rintro rfl <;> simp [SeqState.txIndex] at h

theorem SeqState.txIndex_isSome_iff (q : SeqState) :
    q.txIndex.isSome = true ↔ q ∈ [SeqState.tx0, .tx1, .tx2, .tx3, .tx4, .tx5, .tx6, .tx7] := by
  cases q <;> simp [SeqState.txIndex]

/-- The serving states WAIT to CLR are none of IDLE, TX0 to TX7 and TXEND (rule R132). -/
theorem SeqState.not_sending_of_serving (q : SeqState) (h : q.serving = true) :
    q ≠ .idle ∧ q.txIndex = none ∧ q.sending = false := by
  revert h
  cases q <;> decide

/-- Everything SEQ can do to Q, by phase: idle, sending (TX0 to TXEND), serving (WAIT to CLR). -/
theorem seqStep_q_cases (r : Bool) (s : Mbcore) :
    (s.q = .idle ∧ s.pollFlag = true ∧ (seqStep r s).q = .tx0) ∨
    (s.q = .idle ∧ s.pollFlag = false ∧ s.dataAvail = true ∧ (seqStep r s).q = .wait) ∨
    (s.q = .idle ∧ s.pollFlag = false ∧ s.dataAvail = false ∧ (seqStep r s).q = .idle) ∨
    (s.q.txIndex.isSome = true ∧ (seqStep r s).q.sending = true) ∨
    (s.q = .txend ∧ (seqStep r s).q = .idle) ∨
    (s.q.serving = true ∧ s.q ≠ .clr ∧ (seqStep r s).q.serving = true) ∨
    (s.q = .clr ∧ (seqStep r s).q = .idle) := by
  rcases seqStep_cases r s with
    ⟨hq, hp, h⟩ | ⟨hq, hp, hd, h⟩ | ⟨hq, hp, hd, h⟩ | ⟨i, hi, _, h⟩ | ⟨i, x, hi, _, _, _, hx, h⟩ | ⟨hq, h⟩ | ⟨hq, _, h⟩ |
    ⟨hq, _, h⟩ | ⟨hq, _, h⟩ | ⟨v, hq, _, h⟩ |
    ⟨k, x, ⟨hq, _, rfl⟩ | ⟨hq, _, rfl⟩ | ⟨hq, _, rfl⟩ | ⟨hq, _, rfl⟩ | ⟨hq, _, rfl⟩, h⟩ |
    ⟨hq, hc, h⟩ | ⟨hq, hc, h⟩ | ⟨hq, h⟩ <;>
  simp_all [SeqState.sending, SeqState.serving, SeqState.crcDone, SeqState.txIndex]

/-- SEQ as one record update; what it makes of the CRC registers and of Q is said by `seqStep_cases`. -/
theorem seqStep_eq (r : Bool) (s : Mbcore) :
    seqStep r s = { s with
      pollFlag := if s.q = .txend then false else s.pollFlag
      rto := if s.q = .txend then 0#Config.wRto else s.rto
      rxCount := if s.q = .txend ∨ s.q = .clr then 0#Config.wCount else s.rxCount
      dataAvail := if s.q = .clr then false else s.dataAvail
      crcHi := (seqStep r s).crcHi
      crcLo := (seqStep r s).crcLo
      pressure := if s.q = .cmp ∧ s.crcMatches = true then s.framePressure else s.pressure
      presUpd := if s.q = .cmp ∧ s.crcMatches = true then true else if s.q = .clr then false else s.presUpd
      dir := if s.q = .txend then false else if s.q = .idle ∧ s.pollFlag = true then true else s.dir
      q := (seqStep r s).q } := by
  have present := @SeqState.ne_of_txIndex_eq_some s.q
  rcases seqStep_cases r s with
    ⟨hq, hp, h⟩ | ⟨hq, hp, hd, h⟩ | ⟨hq, hp, hd, h⟩ | ⟨i, hi, _, h⟩ | ⟨i, x, hi, _, _, _, hx, h⟩ | ⟨hq, h⟩ | ⟨hq, _, h⟩ |
    ⟨hq, _, h⟩ | ⟨hq, _, h⟩ | ⟨v, hq, _, h⟩ |
    ⟨k, x, ⟨hq, _, rfl⟩ | ⟨hq, _, rfl⟩ | ⟨hq, _, rfl⟩ | ⟨hq, _, rfl⟩ | ⟨hq, _, rfl⟩, h⟩ |
    ⟨hq, hc, h⟩ | ⟨hq, hc, h⟩ | ⟨hq, h⟩ <;>
  refine Mbcore.eq_of_fields ?_ ?_ ?_ ?_ ?_ ?_ ?_ ?_ ?_ ?_ ?_ ?_ <;> simp_all

/-! ## SEQ, one register at a time -/

theorem seqStep_pollFlag (r : Bool) (s : Mbcore) :
    (seqStep r s).pollFlag = if s.q = .txend then false else s.pollFlag := congrArg Mbcore.pollFlag (seqStep_eq r s)

theorem seqStep_rto (r : Bool) (s : Mbcore) :
    (seqStep r s).rto = if s.q = .txend then 0#Config.wRto else s.rto := congrArg Mbcore.rto (seqStep_eq r s)

theorem seqStep_rxCount (r : Bool) (s : Mbcore) :
    (seqStep r s).rxCount = if s.q = .txend ∨ s.q = .clr then 0#Config.wCount else s.rxCount :=
  congrArg Mbcore.rxCount (seqStep_eq r s)

theorem seqStep_dataAvail (r : Bool) (s : Mbcore) :
    (seqStep r s).dataAvail = if s.q = .clr then false else s.dataAvail := congrArg Mbcore.dataAvail (seqStep_eq r s)

theorem seqStep_pressure (r : Bool) (s : Mbcore) :
    (seqStep r s).pressure = if s.q = .cmp ∧ s.crcMatches = true then s.framePressure else s.pressure :=
  congrArg Mbcore.pressure (seqStep_eq r s)

theorem seqStep_presUpd (r : Bool) (s : Mbcore) :
    (seqStep r s).presUpd =
      if s.q = .cmp ∧ s.crcMatches = true then true else if s.q = .clr then false else s.presUpd :=
  congrArg Mbcore.presUpd (seqStep_eq r s)

theorem seqStep_dir (r : Bool) (s : Mbcore) :
    (seqStep r s).dir = if s.q = .txend then false else if s.q = .idle ∧ s.pollFlag = true then true else s.dir :=
  congrArg Mbcore.dir (seqStep_eq r s)

/-- SEQ leads to a send state from IDLE with a poll pending, and from TX0 to TX7 (rules R84, R85). -/
theorem seqStep_sending_iff (r : Bool) (s : Mbcore) :
    (seqStep r s).q.sending = true ↔ (s.q = .idle ∧ s.pollFlag = true) ∨ s.q.txIndex.isSome = true := by
  have serving := SeqState.not_sending_of_serving
  rcases seqStep_q_cases r s with
    ⟨hq, hp, h⟩ | ⟨hq, hp, _, h⟩ | ⟨hq, hp, _, h⟩ | ⟨hq, h⟩ | ⟨hq, h⟩ | ⟨hq, _, h⟩ | ⟨hq, h⟩
  case inr.inr.inr.inl => simp [hq, h]
  case inr.inr.inr.inr.inr.inl => simp [serving _ hq, serving _ h]
  all_goals simp_all [SeqState.sending, SeqState.txIndex]

/-- SEQ leads to a serving state from a serving state before CLR, and from IDLE with data available (rules R84, R132). -/
theorem serving_of_seqStep_serving {r : Bool} {s : Mbcore} (h : (seqStep r s).q.serving = true) :
    (s.q.serving = true ∧ s.q ≠ .clr) ∨ (s.q = .idle ∧ s.dataAvail = true) := by
  have hs := (SeqState.not_sending_of_serving _ h).2.2
  rcases seqStep_q_cases r s with
    ⟨_, _, h'⟩ | ⟨hq, _, hd, _⟩ | ⟨_, _, _, h'⟩ | ⟨_, h'⟩ | ⟨_, h'⟩ | ⟨hq, hn, _⟩ | ⟨_, h'⟩
  case inr.inl => exact .inr ⟨hq, hd⟩
  case inr.inr.inr.inr.inr.inl => exact .inl ⟨hq, hn⟩
  all_goals simp [h', SeqState.serving, SeqState.crcDone] at h hs

theorem seqStep_q_of_cmp (r : Bool) {s : Mbcore} (h : s.q = .cmp) : (seqStep r s).q = .clr := by
  cases hc : s.crcMatches <;> simp [seqStep, microCmp, h, hc]

/-! ## A cycle: what SEQ alone writes, and the atomic steps it is made of -/

/-- Rule R138: in a cycle without reset the CRC registers, PRESSURE, PRES_UPD, DIR and Q are written by SEQ alone. -/
theorem cycle_seq_registers (s : Mbcore) {w : InputWord} (h : inputRst w = false) :
    (cycle s w).crcHi = (seqStep (inputTxReady w) s).crcHi ∧ (cycle s w).crcLo = (seqStep (inputTxReady w) s).crcLo ∧
    (cycle s w).pressure = (seqStep (inputTxReady w) s).pressure ∧
    (cycle s w).presUpd = (seqStep (inputTxReady w) s).presUpd ∧
    (cycle s w).dir = (seqStep (inputTxReady w) s).dir ∧ (cycle s w).q = (seqStep (inputTxReady w) s).q := by
  rcases cycle_cases s w with ⟨hr, _⟩ | ⟨_, _, _, e⟩ | ⟨_, _, _, e⟩ | ⟨_, _, _, e⟩ | ⟨_, _, _, e⟩
  · simp [h] at hr
  all_goals simp [e]

/-- What every atomic step keeps, every cycle keeps (rule R140). -/
theorem cycle_keeps {P : Mbcore → Prop} (keep : ∀ (s : Mbcore) (a : AgentStep), P s → P (a.apply s)) (s : Mbcore)
    (w : InputWord) (h : P s) : P (cycle s w) := by
  have hseq := keep s (.seq (inputTxReady w)) h
  rcases cycle_cases s w with ⟨_, e⟩ | ⟨_, _, _, e⟩ | ⟨_, _, _, e⟩ | ⟨_, _, _, e⟩ | ⟨_, _, _, e⟩ <;> rw [e]
  · exact keep s .reset h
  · exact hseq
  · exact keep _ .tick hseq
  · exact keep _ (.rx _) hseq
  · exact keep _ (.rx _) (keep _ .tick hseq)

/-! ## Instructions and the step as moves of MBCORE -/

/-- What an instruction makes of MBCORE, given the tx_ready of the cycle's word (rule R26; log 5). -/
def instrMove : Instr → Bool → Mbcore → Mbcore
  | .rst, _ => Mbcore.resetState
  | .nop r, _ => seqStep r
  | .tick r, _ => fun m => (seqStep r m).tickStep
  | .rx r d, _ => fun m => (seqStep r m).rxStep d
  | .tickrx r d, _ => fun m => (seqStep r m).tickStep.rxStep d
  | .idle, _ => microIdle
  | .tx0, r => microTx0 r
  | .tx1, r => microTx1 r
  | .tx2, r => microTx2 r
  | .tx3, r => microTx3 r
  | .tx4, r => microTx4 r
  | .tx5, r => microTx5 r
  | .tx6, r => microTx6 r
  | .tx7, r => microTx7 r
  | .txend, _ => microTxend
  | .wait, _ => microWait
  | .gate, _ => microGate
  | .crc0, _ => microCrc0
  | .crc1, _ => microCrc1
  | .crc2, _ => microCrc2
  | .crc3, _ => microCrc3
  | .crc4, _ => microCrc4
  | .cmp, _ => microCmp
  | .clr, _ => microClr
  | .requestFrame, _ => fun m => runWords m (readyWords Config.reqLen)
  | .responseFrame h l c d, _ => fun m => runWords m (frameWords (responseBytes h l c d))

/-- Every instruction answers a move of MBCORE and leaves the environment alone. -/
theorem exec_eq_onCore (i : Instr) (s : State) : exec i s = .next (s.onCore (instrMove i s.txReady)) := by
  cases i <;> rfl

theorem exec_environment {i : Instr} {s t : State} (h : exec i s = .next t) : t.toEnvironment = s.toEnvironment := by
  rw [exec_eq_onCore] at h
  cases h
  rfl

/-- The operation that an input word selects is CYCLE with that word (rules R130, R133 to R137). -/
theorem exec_decodeInput (s : State) (w : InputWord) : exec (decodeInput w) s = .next (s.onCore fun m => cycle m w) := by
  cases hr : inputRst w <;> cases ht : inputTick w <;> cases hx : inputRxValid w <;>
    simp [decodeInput, cycle, exec, execRst, execNop, execTick, execRx, execTickrx, hr, ht, hx]

theorem Environment.fetch_nil {e : Environment} (h : e.stimuli = []) :
    e.fetch = decodeInput (Config.envInput e.envCycle) := by
  simp [Environment.fetch, h]

theorem Environment.fetch_cons {e : Environment} {x : Stimulus} {rest : List Stimulus} (h : e.stimuli = x :: rest) :
    e.fetch = x.instr := by
  simp [Environment.fetch, h]

/-- The instruction a step fetches runs MBCORE over some input words, one a cycle: the given or the free word, or the words
of a frame (logs 1, 2, 6). -/
theorem exec_fetch_runs_words (s : State) :
    ∃ ws : List InputWord, exec s.fetch s = .next (s.onCore fun m => runWords m ws) := by
  cases hs : s.stimuli with
  | nil =>
    rw [Environment.fetch_nil hs]
    exact ⟨[Config.envInput s.envCycle], exec_decodeInput s _⟩
  | cons x rest =>
    rw [Environment.fetch_cons hs]
    cases x with
    | word w => exact ⟨[w], exec_decodeInput s w⟩
    | request => exact ⟨readyWords Config.reqLen, rfl⟩
    | response h l c d => exact ⟨frameWords (responseBytes h l c d), rfl⟩

/-- What every atomic step keeps of MBCORE, every step of a run keeps: the induction behind the invariants. -/
theorem step_keeps {P : Mbcore → Prop} (keep : ∀ (s : Mbcore) (a : AgentStep), P s → P (a.apply s)) {s t : State}
    (h : P s.toMbcore) (hs : step s = .next t) : P t.toMbcore := by
  obtain ⟨u, hu, rfl⟩ := step_next hs
  obtain ⟨ws, hws⟩ := exec_fetch_runs_words s
  obtain rfl : s.onCore (fun m => runWords m ws) = u := by simpa [hws] using hu
  simpa using runWords_induct (cycle_keeps keep) s.toMbcore ws h

/-- A step that has a stimulus runs its row and uses it up. -/
theorem step_of_stimulus {s t : State} {x : Stimulus} {rest : List Stimulus} (hs : s.stimuli = x :: rest)
    (he : exec x.instr s = .next t) : step s = .next { t with stimuli := rest } := by
  have ht : t.stimuli = x :: rest := by rw [exec_environment he, hs]
  simp [step, Environment.fetch_cons hs, he, consume_eq, ht]

/-- A step that was given nothing runs the free input word and uses that up (log 2). -/
theorem step_of_free_word {s t : State} (hs : s.stimuli = [])
    (he : exec (decodeInput (Config.envInput s.envCycle)) s = .next t) :
    step s = .next { t with envCycle := s.envCycle + 1 } := by
  have ht : t.stimuli = [] := by rw [exec_environment he, hs]
  have hc : t.envCycle = s.envCycle := by rw [exec_environment he]
  simp [step, Environment.fetch_nil hs, he, consume_eq, ht, hc]

/-! ## The ranges of rule R28 -/

theorem rangesHold_resetState (s : Mbcore) : s.resetState.RangesHold := by
  constructor <;> simp [SeqState.sending, SeqState.txIndex]

theorem rangesHold_seqStep (r : Bool) {s : Mbcore} (h : s.RangesHold) : (seqStep r s).RangesHold where
  ptc_le := by simpa using h.ptc_le
  rto_le := by
    rw [seqStep_rto]
    split
    · simp
    · exact h.rto_le
  rxCount_le := by
    rw [seqStep_rxCount]
    split
    · simp
    · exact h.rxCount_le
  dir_iff := by
    rw [seqStep_dir, seqStep_sending_iff]
    by_cases hq : s.q = .txend
    · simp [hq, SeqState.txIndex]
    · rw [if_neg hq]
      by_cases hp : s.q = .idle ∧ s.pollFlag = true
      · simp [hp]
      · simp [hp, h.dir_iff, SeqState.sending, hq]
  presUpd_clr := by
    rw [seqStep_presUpd]
    intro hp
    by_cases hc : s.q = .cmp ∧ s.crcMatches = true
    · exact seqStep_q_of_cmp r hc.1
    · rw [if_neg hc] at hp
      by_cases hq : s.q = .clr
      · simp [hq] at hp
      · exact absurd (h.presUpd_clr (by simpa [hq] using hp)) hq

theorem rangesHold_tickStep {s : Mbcore} (h : s.RangesHold) : s.tickStep.RangesHold where
  ptc_le := by rw [tickStep_ptc_toNat]; split <;> omega
  rto_le := by rw [tickStep_rto_toNat]; have := h.rto_le; split <;> omega
  rxCount_le := by simpa using h.rxCount_le
  dir_iff := by simpa using h.dir_iff
  presUpd_clr := by simpa using h.presUpd_clr

theorem rangesHold_rxStep (b : Byte) {s : Mbcore} (h : s.RangesHold) : (s.rxStep b).RangesHold where
  ptc_le := by simpa using h.ptc_le
  rto_le := by simp
  rxCount_le := by rw [rxStep_rxCount_toNat]; have := h.rxCount_le; split <;> omega
  dir_iff := by simpa using h.dir_iff
  presUpd_clr := by simpa using h.presUpd_clr

theorem rangesHold_apply (s : Mbcore) (a : AgentStep) (h : s.RangesHold) : (a.apply s).RangesHold := by
  cases a with
  | seq r => exact rangesHold_seqStep r h
  | tick => exact rangesHold_tickStep h
  | rx b => exact rangesHold_rxStep b h
  | reset => exact rangesHold_resetState s

/-- Settles O47: every atomic step keeps the ranges, and a step is a run of atomic steps. -/
theorem stepKeepsTheRanges : Obligations.StepKeepsTheRanges := fun _ _ h hs => step_keeps rangesHold_apply h hs

/-! ## The receive buffer (rules R13, R168) -/

/-- RESET_STATE keeps the buffer and counts nothing, so only the canonical form is asked for (rule R165). -/
theorem bufferHolds_resetState {s : Mbcore} (h : Memory.wf s.rxbuf = true) : s.resetState.BufferHolds where
  canonical := h
  filled := by simp

/-- The indices written after the byte-arrival step: the old ones and the count position. -/
theorem rxStep_written (s : Mbcore) (b : Byte) (i : BufIndex) :
    (s.rxStep b).written i = (decide (i.val = s.rxCount.toNat) || s.written i) := by
  obtain ⟨hroom, e⟩ | ⟨hfull, e⟩ := rxStep_cases s b
  · by_cases hi : i.val = s.rxCount.toNat <;> simp [e, Mbcore.written, Memory.write, Memory.lookup_insert, hi]
  · have hi : i.val ≠ s.rxCount.toNat := fun hi => hfull (hi ▸ i.isLt)
    simp [e, Mbcore.written, hi]

theorem bufferHolds_seqStep (r : Bool) {s : Mbcore} (h : s.BufferHolds) : (seqStep r s).BufferHolds where
  canonical := by simpa using h.canonical
  filled i hi := by
    rw [Mbcore.written_congr (seqStep_rxbuf r s)]
    rw [seqStep_rxCount] at hi
    split at hi
    · simp at hi
    · exact h.filled i hi

theorem bufferHolds_tickStep {s : Mbcore} (h : s.BufferHolds) : s.tickStep.BufferHolds where
  canonical := by simpa using h.canonical
  filled i hi := by
    rw [Mbcore.written_congr (tickStep_rxbuf s)]
    exact h.filled i (by simpa using hi)

theorem bufferHolds_rxStep (b : Byte) {s : Mbcore} (h : s.BufferHolds) : (s.rxStep b).BufferHolds where
  canonical := by
    obtain ⟨_, e⟩ | ⟨_, e⟩ := rxStep_cases s b <;> rw [e]
    · exact Memory.write_wf _ _ _ h.canonical
    · exact h.canonical
  filled i hi := by
    rw [rxStep_written]
    by_cases hlast : i.val = s.rxCount.toNat
    · simp [hlast]
    · have hlt : i.val < s.rxCount.toNat := by
        rw [rxStep_rxCount_toNat] at hi
        split at hi <;> omega
      simp [h.filled i hlt]

theorem bufferHolds_apply (s : Mbcore) (a : AgentStep) (h : s.BufferHolds) : (a.apply s).BufferHolds := by
  cases a with
  | seq r => exact bufferHolds_seqStep r h
  | tick => exact bufferHolds_tickStep h
  | rx b => exact bufferHolds_rxStep b h
  | reset => exact bufferHolds_resetState h.canonical

/-- Settles O48: only the byte-arrival step writes the buffer, at the count position, before it raises the count. -/
theorem stepKeepsTheBufferFilled : Obligations.StepKeepsTheBufferFilled := fun _ _ h hs =>
  step_keeps bufferHolds_apply h hs

/-! ## PRESSURE (rules R18, R124) -/

/-- Settles O42: in a cycle without reset PRESSURE is what SEQ makes of it, and SEQ writes it in CMP on a match alone. -/
theorem pressureChangesOnlyOnMatch : Obligations.PressureChangesOnlyOnMatch := by
  intro s w hne
  cases hr : inputRst w with
  | true => exact .inl rfl
  | false =>
    obtain ⟨_, _, hp, hu, _, _⟩ := cycle_seq_registers s hr
    rw [hp, seqStep_pressure] at hne
    have hm : s.q = .cmp ∧ s.crcMatches = true := by
      by_contra hm
      exact hne (if_neg hm)
    obtain ⟨hq, hmatch⟩ := hm
    refine .inr ⟨hq, by simpa [Mbcore.crcMatches] using hmatch, ?_, ?_⟩
    · rw [hp, seqStep_pressure, if_pos ⟨hq, hmatch⟩]
    · rw [hu, seqStep_presUpd, if_pos ⟨hq, hmatch⟩]

/-! ## The flags (rules R11, R15) -/

theorem flagsHold_resetState (s : Mbcore) : s.resetState.FlagsHold := by
  constructor <;> simp [SeqState.sending, SeqState.serving, SeqState.txIndex, SeqState.crcDone]

theorem flagsHold_seqStep (r : Bool) {s : Mbcore} (h : s.FlagsHold) : (seqStep r s).FlagsHold where
  poll hs := by
    rw [seqStep_pollFlag]
    rcases (seqStep_sending_iff r s).mp hs with ⟨hq, hp⟩ | hq
    · simp [hq, hp]
    · have hp := h.poll (by simp [SeqState.sending, hq])
      have hn : s.q ≠ .txend := fun e => by simp [e, SeqState.txIndex] at hq
      simp [hn, hp]
  serving hs := by
    rw [seqStep_dataAvail]
    rcases serving_of_seqStep_serving hs with ⟨hq, hn⟩ | ⟨hq, hd⟩
    · simp [hn, h.serving hq]
    · simp [hq, hd]
  counted hc := by
    rw [seqStep_rxCount] at hc
    rw [seqStep_dataAvail]
    split at hc
    · simp at hc
    · rename_i hn
      rw [if_neg fun hq => hn (.inr hq)]
      exact h.counted hc

theorem flagsHold_tickStep {s : Mbcore} (h : s.FlagsHold) : s.tickStep.FlagsHold where
  poll hs := by simp [tickStep_eq, h.poll (by simpa using hs)]
  serving hs := by simpa using h.serving (by simpa using hs)
  counted hc := by simpa using h.counted (by simpa using hc)

theorem flagsHold_rxStep (b : Byte) {s : Mbcore} (h : s.FlagsHold) : (s.rxStep b).FlagsHold where
  poll hs := by simpa using h.poll (by simpa using hs)
  serving _ := rxStep_dataAvail s b
  counted _ := rxStep_dataAvail s b

theorem flagsHold_apply (s : Mbcore) (a : AgentStep) (h : s.FlagsHold) : (a.apply s).FlagsHold := by
  cases a with
  | seq r => exact flagsHold_seqStep r h
  | tick => exact flagsHold_tickStep h
  | rx b => exact flagsHold_rxStep b h
  | reset => exact flagsHold_resetState s

/-- Settles O50: every atomic step keeps the flags. In SEQ only TXEND drops POLL_FLAG and only CLR drops DATA_AVAIL, each
with the count, and both lead to IDLE. -/
theorem stepKeepsTheFlags : Obligations.StepKeepsTheFlags := fun _ _ h hs => step_keeps flagsHold_apply h hs

/-! ## The step and its instruction -/

/-- Settles O6: the four kinds of item a step can fetch. -/
theorem stepRunsTheFetchedInstruction : Obligations.StepRunsTheFetchedInstruction :=
  ⟨fun _ _ _ _ hs he => step_of_stimulus hs he, fun _ _ hs he => step_of_free_word hs he,
    fun _ _ _ hs he => step_of_stimulus hs he, fun _ _ _ _ _ _ _ hs he => step_of_stimulus hs he⟩

/-- Settles O54: every instruction is a move of MBCORE that is given the instruction and tx_ready alone. -/
theorem environmentIsNotState : Obligations.EnvironmentIsNotState := by
  refine ⟨fun i s => ⟨_, exec_eq_onCore i s, rfl⟩, fun i s s' t t' hm hr ht ht' => ?_⟩
  rw [exec_eq_onCore] at ht ht'
  cases ht
  cases ht'
  simp [hm, hr]

/-! ## The reset state and the outputs -/

/-- Settles O12, field by field of the reset state. -/
theorem resetStateValues : Obligations.ResetStateValues :=
  ⟨rfl, rfl, rfl, rfl, rfl, rfl, rfl, rfl, rfl, rfl, rfl⟩

/-- No validation is in progress after RESET_STATE. -/
theorem validationHolds_resetState (s : Mbcore) : s.resetState.ValidationHolds := by
  constructor <;> simp [SeqState.crcDone]

/-- Settles O46: the reset state is what RESET_STATE makes of a state with nothing stored. -/
theorem resetMeetsTheInvariants : Obligations.ResetMeetsTheInvariants := by
  intro s hs
  have hs : s.toMbcore = Mbcore.reset.resetState := hs
  rw [hs]
  exact ⟨rangesHold_resetState _, bufferHolds_resetState Memory.reset_wf, validationHolds_resetState _,
    flagsHold_resetState _⟩

/-- Two joined bytes as a number, the high byte first (rule R17). -/
theorem joinBytes_toNat (hi lo : Byte) : (joinBytes hi lo).toNat = hi.toNat * 256 + lo.toNat := by
  have hlo : lo.toNat < 2 ^ 8 := lo.isLt
  have hhi : hi.toNat <<< 8 < 2 ^ 16 := by
    have := hi.isLt
    rw [Nat.shiftLeft_eq]
    omega
  have widen (b : Byte) : (b.setWidth 16).toNat = b.toNat := BitVec.toNat_setWidth_of_le (by decide)
  calc (joinBytes hi lo).toNat
    _ = hi.toNat <<< 8 ||| lo.toNat := by
      rw [joinBytes, BitVec.toNat_or, BitVec.toNat_shiftLeft, widen, widen, Nat.mod_eq_of_lt hhi]
    _ = hi.toNat <<< 8 + lo.toNat := (Nat.shiftLeft_add_eq_or_of_lt hlo _).symm
    _ = hi.toNat * 256 + lo.toNat := by rw [Nat.shiftLeft_eq]

/-- Settles O44: the transmit port by the index of the request byte presented, the rest as the registers. -/
theorem outputsFollowTheState : Obligations.OutputsFollowTheState := by
  intro s
  refine ⟨s.q.txIndex_isSome_iff, fun i hi => ?_, fun hv => ?_, rfl, rfl, rfl, rfl, rfl, rfl,
    joinBytes_toNat s.crcHi s.crcLo, rfl, fun j => ?_⟩
  · simp [Mbcore.outputs, (s.q.txIndex_eq_some_iff i).mpr hi]
  · have hn : s.q.txIndex = none := by simpa [Mbcore.outputs] using hv
    simp [Mbcore.outputs, hn]
  · fin_cases j <;> rfl

end Sys2Proof.Machine

/-! Proofs about MBCORE's memory (20_memory.md): what a cycle makes of each byte of RXBUF, and what leads the sequencer into
TXEND and into GATE. -/

namespace Sys2Proof.Machine

/-! ## The append at the count position (rule R33) -/

/-- RX_COUNT as SEQ leaves it, as a number: the index at which a byte of the cycle is stored (rules R33, R138). -/
theorem seqStep_rxCount_toNat (r : Bool) (s : Mbcore) :
    (seqStep r s).rxCount.toNat = if s.q = .txend ∨ s.q = .clr then 0 else s.rxCount.toNat := by
  rw [seqStep_rxCount]
  split <;> simp

/-- What a read gives after a cycle: RX alone stores, at the count that SEQ left it; neither SEQ nor TICK moves a byte. -/
theorem cycle_buf (s : Mbcore) (w : InputWord) (i : BufIndex) :
    (cycle s w).buf i =
      if inputRst w = false ∧ inputRxValid w = true ∧ i.val = (seqStep (inputTxReady w) s).rxCount.toNat then
        inputRxData w
      else s.buf i := by
  have seq : (seqStep (inputTxReady w) s).buf i = s.buf i := Mbcore.buf_congr (seqStep_rxbuf _ s) i
  have tick (m : Mbcore) : m.tickStep.buf i = m.buf i := Mbcore.buf_congr (tickStep_rxbuf m) i
  rcases cycle_cases s w with ⟨hr, e⟩ | ⟨hr, _, hx, e⟩ | ⟨hr, _, hx, e⟩ | ⟨hr, _, hx, e⟩ | ⟨hr, _, hx, e⟩
  · simpa [hr, e] using Mbcore.buf_congr s.resetState_rxbuf i
  · simp [hx, e, seq]
  · simp [hx, e, tick, seq]
  · simp [hr, hx, e, rxStep_buf, seq]
  · simp [hr, hx, e, rxStep_buf, tick, seq]

/-- Settles O25: a byte that differs after the cycle is the one the byte-arrival step stored. -/
theorem bufferWrittenOnlyAtCount : Obligations.BufferWrittenOnlyAtCount := by
  intro s w i hne
  have hbuf := cycle_buf s w i
  split at hbuf
  next hstored =>
    obtain ⟨hr, hx, hi⟩ := hstored
    exact ⟨hr, hx, hbuf, by rw [hi, seqStep_rxCount_toNat]⟩
  next => exact absurd hbuf hne

/-! ## The two serialisations (rule R42) -/

/-- The exit condition of the wait loop, on numbers (rule R100). -/
theorem waitOver_iff (s : Mbcore) : s.waitOver = true ↔ 7 < s.rxCount.toNat ∨ 10 ≤ s.rto.toNat := by
  simp [Mbcore.waitOver, Config.readyExceed, Config.rtoLimit]

/-- What leads SEQ into TXEND and into GATE: TX7 where the transport is ready (rule R85), WAIT where the wait is over
(rules R100, R132). -/
theorem seqStep_enters_txend_gate (r : Bool) (s : Mbcore) :
    ((seqStep r s).q = .txend → s.q = .tx7 ∧ r = true) ∧
    ((seqStep r s).q = .gate → s.q = .wait ∧ s.waitOver = true) := by
  rcases seqStep_cases r s with
    ⟨hq, _, e⟩ | ⟨hq, _, _, e⟩ | ⟨hq, _, _, e⟩ | ⟨i, hi, _, e⟩ | ⟨i, x, _, hr, _, hx, hsend, e⟩ | ⟨hq, e⟩ | ⟨hq, hw, e⟩ |
    ⟨hq, _, e⟩ | ⟨hq, _, e⟩ | ⟨v, hq, _, e⟩ |
    ⟨k, x, ⟨hq, _, rfl⟩ | ⟨hq, _, rfl⟩ | ⟨hq, _, rfl⟩ | ⟨hq, _, rfl⟩ | ⟨hq, _, rfl⟩, e⟩ |
    ⟨hq, _, e⟩ | ⟨hq, _, e⟩ | ⟨hq, e⟩ <;> rw [e]
  case inr.inr.inr.inl =>
    constructor <;> intro h <;> simp [h, SeqState.txIndex] at hi
  case inr.inr.inr.inr.inl =>
    refine ⟨fun h => ⟨hx.mp h, hr⟩, fun h => ?_⟩
    obtain rfl : x = .gate := h
    simp [SeqState.txIndex] at hsend
  case inr.inr.inr.inr.inr.inr.inl => simp [hq, hw]
  all_goals simp [hq]

/-- A ready cycle in TXi without reset transfers REQ[i] (rule R86). -/
theorem transfer_of_txIndex {s : Mbcore} {w : InputWord} {i : Fin 8} (hi : s.q.txIndex = some i)
    (hrst : inputRst w = false) (hready : inputTxReady w = true) : s.transfer w = some (reqByte i) := by
  simp [Mbcore.transfer, Mbcore.outputs, hi, hrst, hready]

/-- A cycle that ends outside IDLE is no reset, and Q stands where SEQ put it (rules R137, R138). -/
theorem cycle_q_of_ne_idle {s : Mbcore} {w : InputWord} (h : (cycle s w).q ≠ .idle) :
    inputRst w = false ∧ (cycle s w).q = (seqStep (inputTxReady w) s).q := by
  cases hr : inputRst w with
  | true => simp [cycle, hr] at h
  | false =>
    obtain ⟨_, _, _, _, _, hq⟩ := cycle_seq_registers s hr
    exact ⟨rfl, hq⟩

/-- Without reset DIR falls in TXEND alone (rule R87). -/
theorem cycle_dir_falls {s : Mbcore} {w : InputWord} (hrst : inputRst w = false) (hup : s.dir = true)
    (hdown : (cycle s w).dir = false) : s.q = .txend := by
  obtain ⟨_, _, _, _, hdir, _⟩ := cycle_seq_registers s hrst
  rw [hdir, seqStep_dir] at hdown
  by_contra hq
  simp [hq, hup] at hdown

/-- Settles O53: DIR and Q are written by SEQ alone, whose moves into TXEND and GATE are known. -/
theorem sendAndDecodeAreSerialised : Obligations.SendAndDecodeAreSerialised := by
  refine fun s w => ⟨fun hup hdown => ?_, fun h => ?_, fun h => ?_⟩
  · cases hrst : inputRst w with
    | true => exact .inl rfl
    | false => exact .inr (cycle_dir_falls hrst hup hdown)
  · obtain ⟨hrst, hseq⟩ := cycle_q_of_ne_idle (by simp [h] : (cycle s w).q ≠ .idle)
    obtain ⟨hq, hready⟩ := (seqStep_enters_txend_gate _ s).1 (hseq ▸ h)
    exact ⟨hq, transfer_of_txIndex (i := 7) (by rw [hq]; rfl) hrst hready⟩
  · obtain ⟨_, hseq⟩ := cycle_q_of_ne_idle (by simp [h] : (cycle s w).q ≠ .idle)
    obtain ⟨hq, hover⟩ := (seqStep_enters_txend_gate _ s).2 (hseq ▸ h)
    exact ⟨hq, (waitOver_iff s).mp hover⟩

end Sys2Proof.Machine

/-! Proofs about the encodings (30_encoding.md): the decoder on the encoder's words, format by format, what a placed word
makes of the next step, and the two frames as runs of cycles. -/

namespace Sys2Proof.Machine

/-! ## The input word (rules R47, R50, R51) -/

/-- The decoder reads the operation and its operands off the fields of an encoded input word. -/
@[simp] theorem decodeInput_makeInput (a b c r : Bool) (d : Byte) :
    decodeInput (makeInput a b c r d) =
      if a then .rst else if b then if c then .tickrx r d else .tick r else if c then .rx r d else .nop r := by
  simp [decodeInput]

/-- Every input word is the encoding of its fields (rule R47). -/
theorem makeInput_of_fields (w : InputWord) :
    makeInput (inputRst w) (inputTick w) (inputRxValid w) (inputTxReady w) (inputRxData w) = w := by
  have flag (b : Bool) (m : InputWord) (i : Nat) : (if b then m else 0#12).getLsbD i = (b && m.getLsbD i) := by
    cases b <;> simp
  apply BitVec.eq_of_getLsbD_eq
  intro i hi
  simp only [makeInput, BitVec.getLsbD_or, flag]
  interval_cases i <;> simp [inputRst, inputTick, inputRxValid, inputTxReady, inputRxData]

/-- The operation bits of an input word are its three flags, bit 11 the reset flag (rule R50). -/
theorem input_operation_bits (w : InputWord) :
    w &&& 0x800#12 = (if inputRst w then 0x800#12 else 0#12) ∧
    w &&& 0xE00#12 = (if inputRst w then 0x800#12 else 0#12) ||| (if inputTick w then 0x400#12 else 0#12) |||
      (if inputRxValid w then 0x200#12 else 0#12) := by
  have hreset := Laws.makeInput_reset (inputRst w) (inputTick w) (inputRxValid w) (inputTxReady w) (inputRxData w)
  have hflags := Laws.makeInput_operation (inputRst w) (inputTick w) (inputRxValid w) (inputTxReady w) (inputRxData w)
  rw [makeInput_of_fields] at hreset hflags
  exact ⟨hreset, hflags⟩

/-- The data field is bits 7:0 (rule R47). -/
theorem inputRxData_eq_extractLsb' (w : InputWord) : inputRxData w = w.extractLsb' 0 8 :=
  BitVec.setWidth_eq_extractLsb' (by decide)

/-- Settles O2: the three flags are bits 11:9, and each of their settings is one operation. -/
theorem inputWordSelectsOneOperation : Obligations.InputWordSelectsOneOperation := by
  intro w
  obtain ⟨hreset, hflags⟩ := input_operation_bits w
  rw [hreset, hflags, ← inputRxData_eq_extractLsb', ← inputTxReady]
  cases hr : inputRst w <;> cases ht : inputTick w <;> cases hx : inputRxValid w <;>
    simp [decode, decodeInput, hr, ht, hx]

/-- Words that agree under a mask agree in every bit of the mask. -/
theorem getLsbD_eq_of_and_eq {n : Nat} {w v m : BitVec n} (h : w &&& m = v &&& m) {i : Nat}
    (hi : m.getLsbD i = true) : w.getLsbD i = v.getLsbD i := by
  simpa [hi] using congrArg (BitVec.getLsbD · i) h

/-- Words that agree under a mask that covers bits 11:9 have the same flags. -/
theorem input_flags_eq_of_and_eq {w v m : InputWord} (h : w &&& m = v &&& m) (h11 : m.getLsbD 11 = true)
    (h10 : m.getLsbD 10 = true) (h9 : m.getLsbD 9 = true) :
    inputRst w = inputRst v ∧ inputTick w = inputTick v ∧ inputRxValid w = inputRxValid v :=
  ⟨getLsbD_eq_of_and_eq h h11, getLsbD_eq_of_and_eq h h10, getLsbD_eq_of_and_eq h h9⟩

/-- SEQ reads tx_ready where a request byte is presented and nowhere else (rules R51, R85). -/
theorem seqStep_txReady_irrelevant {s : Mbcore} (h : s.q.txIndex = none) (r r' : Bool) : seqStep r s = seqStep r' s := by
  cases hq : s.q
  case tx0 | tx1 | tx2 | tx3 | tx4 | tx5 | tx6 | tx7 => simp [hq, SeqState.txIndex] at h
  all_goals simp [seqStep, hq]

/-- Settles O5: CYCLE reads of the word only the fields that its flags call for. -/
theorem ignoredFieldsHaveNoEffect : Obligations.IgnoredFieldsHaveNoEffect := by
  refine fun s w v => ⟨fun hw hv => ?_, fun h hx => ?_, fun hq h => ?_⟩
  · simp [cycle, hw, hv]
  · obtain ⟨hrst, htick, hvalid⟩ := input_flags_eq_of_and_eq h (by decide) (by decide) (by decide)
    have hready : inputTxReady w = inputTxReady v := getLsbD_eq_of_and_eq h (by decide)
    simp [cycle, ← hrst, ← htick, ← hvalid, ← hready, hx]
  · obtain ⟨hrst, htick, hvalid⟩ := input_flags_eq_of_and_eq h (by decide) (by decide) (by decide)
    have hdata : inputRxData w = inputRxData v := by
      apply BitVec.eq_of_getLsbD_eq
      intro i hi
      have hbit : w.getLsbD i = v.getLsbD i := getLsbD_eq_of_and_eq h (by interval_cases i <;> decide)
      simp [inputRxData, hbit]
    simp [cycle, hrst, htick, hvalid, hdata, seqStep_txReady_irrelevant hq (inputTxReady w) (inputTxReady v)]

/-! ## The codes of Q (rules R52, R53) -/

/-- The code of a state decodes to the micro-operation that Q selects there (rule R131). -/
@[simp] theorem decodeSeqCode_code (x : SeqState) : decodeSeqCode x.code = .ok x.instr := by cases x <;> rfl

@[simp] theorem seqStateOf_instr (x : SeqState) : seqStateOf x.instr = some x := by cases x <;> rfl

/-- No state has another one's code: the decoder finds the state again. -/
theorem SeqState.code_injective : Function.Injective SeqState.code := by
  intro x y h
  have hdec : (.ok x.instr : Except DecodeError Instr) = .ok y.instr := by
    rw [← decodeSeqCode_code, h, decodeSeqCode_code]
  have hstate := congrArg seqStateOf (Except.ok.inj hdec)
  simpa using hstate

/-- The codes 0 to 18 are those of the states the micro-operations stand for, in table order. -/
theorem SeqState.exists_code_eq {c : BitVec Config.wQ} (h : c.toNat ≤ 18) : ∃ x : SeqState, x.code = c := by
  have table : ∀ c : BitVec 5, c.toNat ≤ 18 → ∃ x ∈ microOps.filterMap seqStateOf, x.code = c := by decide
  obtain ⟨x, _, hx⟩ := table c h
  exact ⟨x, hx⟩

/-- The table of micro-operations ends at the code 18. -/
theorem decodeSeqCode_rejects {c : BitVec Config.wQ} (h : 19 ≤ c.toNat) :
    decodeSeqCode c = .error .codeNamesNoState := by
  have hnone : microOps[c.toNat]? = none := List.getElem?_eq_none h
  simp [decodeSeqCode, hnone]

/-- Settles O3: the codes up to 18 are the states' codes, and decoding is injective on those. -/
theorem sequencerCodesNameTheStates : Obligations.SequencerCodesNameTheStates := by
  refine ⟨fun c hc => ?_, fun c hc => decodeSeqCode_rejects hc, fun x y h => SeqState.code_injective h⟩
  obtain ⟨x, rfl⟩ := SeqState.exists_code_eq hc
  exact ⟨x, rfl, decodeSeqCode_code x⟩

/-! ## The frames (rules R46, R48) -/

@[simp] theorem decodeRequest_requestBits : decodeRequest requestBits = .ok .requestFrame := if_pos rfl

/-- The bytes of an assembled response frame, byte 0 leftmost (log 7). -/
theorem makeResponse_bytes (b0 b1 b2 b3 b4 b5 b6 : Byte) :
    (makeResponse b0 b1 b2 b3 b4 b5 b6).extractLsb' 48 8 = b0 ∧ (makeResponse b0 b1 b2 b3 b4 b5 b6).extractLsb' 40 8 = b1 ∧
    (makeResponse b0 b1 b2 b3 b4 b5 b6).extractLsb' 32 8 = b2 ∧ (makeResponse b0 b1 b2 b3 b4 b5 b6).extractLsb' 24 8 = b3 ∧
    (makeResponse b0 b1 b2 b3 b4 b5 b6).extractLsb' 16 8 = b4 ∧ (makeResponse b0 b1 b2 b3 b4 b5 b6).extractLsb' 8 8 = b5 ∧
    (makeResponse b0 b1 b2 b3 b4 b5 b6).extractLsb' 0 8 = b6 := by
  refine ⟨?_, ?_, ?_, ?_, ?_, ?_, ?_⟩ <;>
  · apply BitVec.eq_of_getLsbD_eq
    intro i hi
    interval_cases i <;> simp [makeResponse]

/-- A frame with the three constant bytes decodes to its four fields, whatever they are. -/
@[simp] theorem decodeResponse_makeResponse (h l c d : Byte) :
    decodeResponse (makeResponse Config.slaveAddr Config.funcCode Config.byteCount h l c d) =
      .ok (.responseFrame h l c d) := by
  obtain ⟨h0, h1, h2, h3, h4, h5, h6⟩ :=
    makeResponse_bytes Config.slaveAddr Config.funcCode Config.byteCount h l c d
  simp only [decodeResponse, h0, h1, h2, h3, h4, h5, h6, and_self, if_true]

/-- Settles O1, format by format: the input words by their fields, the request and the response frame by their bits, the
micro-operations by their codes. -/
theorem decodeEncodeRoundTrip : Obligations.DecodeEncodeRoundTrip := by
  intro i
  cases i
  case rst | nop | tick | rx | tickrx => simp [encode, decode]
  case requestFrame => exact decodeRequest_requestBits
  case responseFrame h l c d => exact decodeResponse_makeResponse h l c d
  all_goals rfl

/-- Settles O4, by evaluating the decoder on the words. -/
theorem sampleWordsDecode : Obligations.SampleWordsDecode := by
  unfold Obligations.SampleWordsDecode
  decide

/-! ## A placed word and the step that runs it (logs 1, 8) -/

/-- The number of bits tells the format of a word of the table (log 8). -/
theorem tableWord_formats (w : InputWord) (c : BitVec Config.wQ) (f : BitVec 64) (g : BitVec 56) :
    tableWord 16 w.toNat = some (.input w) ∧ tableWord 8 c.toNat = some (.seqCode c) ∧
    tableWord 64 f.toNat = some (.request f) ∧ tableWord 56 g.toNat = some (.response g) := by
  simp [tableWord, Config.reqLen, Config.respLen, Config.wQ]

theorem withFetchWord_input (s : State) (w : InputWord) :
    s.withFetchWord 16 w.toNat = s.setStimuli (.word w :: s.stimuli) := by
  obtain ⟨ht, _, _, _⟩ := tableWord_formats w 0 0 0
  simp [State.withFetchWord, ht, State.place]

theorem withFetchWord_code (s : State) (x : SeqState) :
    s.withFetchWord 8 x.code.toNat = (s.onCore fun m => m.setQ x).setStimuli (.word 0x000#12 :: s.stimuli) := by
  obtain ⟨_, ht, _, _⟩ := tableWord_formats 0 x.code 0 0
  simp [State.withFetchWord, ht, State.place]

theorem withFetchWord_request (s : State) :
    s.withFetchWord 64 requestBits.toNat = (s.onCore fun m => m.setQ .tx0).setStimuli (.request :: s.stimuli) := by
  obtain ⟨_, _, ht, _⟩ := tableWord_formats 0 0 requestBits 0
  simp [State.withFetchWord, ht, State.place]

theorem withFetchWord_response (s : State) (h l c d : Byte) :
    s.withFetchWord 56 (makeResponse Config.slaveAddr Config.funcCode Config.byteCount h l c d).toNat =
      s.setStimuli (.response h l c d :: s.stimuli) := by
  obtain ⟨_, _, _, ht⟩ := tableWord_formats 0 0 0 (makeResponse Config.slaveAddr Config.funcCode Config.byteCount h l c d)
  simp [State.withFetchWord, ht, State.place]

/-- A stimulus makes one move of MBCORE, whatever else stands in the environment. -/
theorem exec_stimulus_instr (x : Stimulus) :
    ∃ ws : List InputWord, ∀ s : State, exec x.instr s = .next (s.onCore fun m => runWords m ws) := by
  cases x with
  | word w => exact ⟨[w], fun s => exec_decodeInput s w⟩
  | request => exact ⟨readyWords Config.reqLen, fun _ => rfl⟩
  | response h l c d => exact ⟨frameWords (responseBytes h l c d), fun _ => rfl⟩

/-- A stimulus put in front is what the next step runs, and the step leaves the rest of the environment as it was. -/
theorem step_of_placed {s t : State} {x : Stimulus} (he : exec x.instr s = .next t) :
    step (s.setStimuli (x :: s.stimuli)) = .next t := by
  obtain ⟨ws, hws⟩ := exec_stimulus_instr x
  obtain rfl : s.onCore (fun m => runWords m ws) = t := by simpa [hws] using he
  exact step_of_stimulus rfl (hws _)

/-- Settles O7: each format is placed as a stimulus in front, a code of Q and the request frame with Q written too. -/
theorem placedWordRunsNext : Obligations.PlacedWordRunsNext := by
  refine ⟨fun s t w he => ?_, fun s t x he => ?_, fun s t he => ?_, fun s t h l c d he => ?_⟩
  · rw [withFetchWord_input]
    exact step_of_placed he
  · rw [withFetchWord_code]
    exact step_of_placed (s := s.onCore fun m => m.setQ x) (x := .word 0x000#12) he
  · exact (congrArg step (withFetchWord_request s)).trans
      (step_of_placed (s := s.onCore fun m => m.setQ .tx0) (x := .request) he)
  · exact (congrArg step (withFetchWord_response s h l c d)).trans (step_of_placed he)

/-! ## The request frame: ready cycles through the send sequence (rules R85, R86) -/

/-- A ready cycle is SEQ alone, with tx_ready 1. -/
@[simp] theorem cycle_readyWord (s : Mbcore) : cycle s readyWord = seqStep true s := by simp [cycle, readyWord]

theorem readyWords_succ (n : Nat) : readyWords (n + 1) = readyWord :: readyWords n := rfl

/-- A ready cycle with a request byte presented moves Q to the state of the next code and writes nothing else. -/
theorem seqStep_ready_of_txIndex {s : Mbcore} {i : Fin 8} (hi : s.q.txIndex = some i) :
    ∃ x : SeqState, x.code = s.q.code + 1#Config.wQ ∧ seqStep true s = s.setQ x := by
  cases hq : s.q
  case tx0 | tx1 | tx2 | tx3 | tx4 | tx5 | tx6 | tx7 =>
    simp only [seqStep, hq, microTx0, microTx1, microTx2, microTx3, microTx4, microTx5, microTx6, microTx7,
      presentByte_eq, if_true]
    exact ⟨_, rfl, rfl⟩
  all_goals simp [hq, SeqState.txIndex] at hi

/-- From the state n codes before TXEND, n ready cycles transfer the last n request bytes and move Q alone. -/
theorem ready_cycles_send (n : Nat) (s : Mbcore) (hn : n ≤ 8) (hq : s.q.code.toNat = 9 - n) :
    runWords s (readyWords n) = s.setQ .txend ∧
      transfers s (readyWords n) = requestBytes.drop (8 - n) := by
  induction n generalizing s with
  | zero =>
    have hend : s.q = .txend := SeqState.code_injective (BitVec.eq_of_toNat_eq hq)
    exact ⟨hend ▸ rfl, rfl⟩
  | succ n ih =>
    have hi : s.q.txIndex = some ⟨7 - n, by omega⟩ := (s.q.txIndex_eq_some_iff _).mpr (by simp only; omega)
    obtain ⟨x, hx, hstep⟩ := seqStep_ready_of_txIndex hi
    have hcode : (s.setQ x).q.code.toNat = 9 - n := by
      simp [hx, hq]
      omega
    obtain ⟨hrun, hsent⟩ := ih (s.setQ x) (by omega) hcode
    have hbyte : s.transfer readyWord = some (reqByte ⟨7 - n, by omega⟩) :=
      transfer_of_txIndex hi (by simp [readyWord]) (by simp [readyWord])
    refine ⟨?_, ?_⟩
    · simp only [readyWords_succ, runWords, cycle_readyWord, hstep, hrun]
      rfl
    · have hlen : 7 - n < requestBytes.length := by
        simp [requestBytes]
        omega
      calc transfers s (readyWords (n + 1))
        _ = reqByte ⟨7 - n, by omega⟩ :: requestBytes.drop (8 - n) := by
          simp only [readyWords_succ, transfers, hbyte, cycle_readyWord, hstep, hsent]
          rfl
        _ = requestBytes[7 - n] :: requestBytes.drop (7 - n + 1) := by
          rw [reqByte, List.getD_eq_getElem _ _ hlen, show 8 - n = 7 - n + 1 by omega]
        _ = requestBytes.drop (8 - (n + 1)) := by
          rw [← List.drop_eq_getElem_cons hlen, show 8 - (n + 1) = 7 - n by omega]

/-- REQUEST_FRAME moves MBCORE to where its ready cycles lead (log 6). -/
theorem exec_requestFrame {s : State} {m : Mbcore} (h : runWords s.toMbcore (readyWords 8) = m) :
    exec .requestFrame s = .next { s with toMbcore := m } := by
  subst h
  rfl

/-- Settles O21: TX0 is eight codes before TXEND. -/
theorem requestFrameIsSent : Obligations.RequestFrameIsSent := by
  have hwords : List.replicate 8 0x100#12 = readyWords 8 := rfl
  unfold Obligations.RequestFrameIsSent
  rw [hwords]
  refine ⟨fun s => exec_requestFrame rfl, fun s hq => ?_⟩
  obtain ⟨hrun, hsent⟩ := ready_cycles_send 8 s.toMbcore le_rfl (by rw [hq]; rfl)
  exact ⟨exec_requestFrame hrun, hsent⟩

/-! ## The response frame: bytes received in the wait loop (rules R84, R96, R100) -/

/-- The word that brings a byte, its flag and its data written out (rule R60). -/
theorem rxWord_eq (b : Byte) : rxWord b = 0x200#12 ||| b.setWidth 12 := by simp [rxWord, makeInput]

/-- A cycle that brings a byte is SEQ, then the byte-arrival step. -/
@[simp] theorem cycle_rxWord (s : Mbcore) (b : Byte) : cycle s (rxWord b) = (seqStep false s).rxStep b := by
  simp [cycle, rxWord]

theorem seqStep_of_idle {s : Mbcore} (r : Bool) (hq : s.q = .idle) (hp : s.pollFlag = false) :
    seqStep r s = s.setQ (if s.dataAvail then .wait else .idle) := by
  cases hd : s.dataAvail <;> simp [seqStep, microIdle, hq, hp, hd]

theorem seqStep_of_wait {s : Mbcore} (r : Bool) (hq : s.q = .wait) :
    seqStep r s = s.setQ (if s.waitOver then .gate else .wait) := by
  cases hw : s.waitOver <;> simp [seqStep, microWait, hq, hw]

/-- The byte-arrival step does not read Q. -/
theorem rxStep_setQ (s : Mbcore) (x : SeqState) (b : Byte) : (s.setQ x).rxStep b = (s.rxStep b).setQ x := by
  by_cases h : s.rxCount.toNat < Config.rxbufLen
  · rw [rxStep_room s b h, rxStep_room (s.setQ x) b h]
    rfl
  · rw [rxStep_full s b h, rxStep_full (s.setQ x) b h]
    rfl

theorem rxStep_rxCount_of_room {s : Mbcore} (b : Byte) (h : s.rxCount.toNat < 9) :
    (s.rxStep b).rxCount.toNat = s.rxCount.toNat + 1 := by
  rw [rxStep_rxCount_toNat, if_pos h]

/-- With at most seven bytes counted and fewer than ten ticks the wait goes on (rule R100). -/
theorem seqStep_waits {s : Mbcore} (r : Bool) (hq : s.q = .wait) (hc : s.rxCount.toNat ≤ 7) (hrto : s.rto.toNat < 10) :
    seqStep r s = s := by
  have hover : s.waitOver = false := by
    rw [← Bool.not_eq_true, waitOver_iff]
    omega
  rw [seqStep_of_wait r hq, hover, ← hq]
  rfl

/-- Bytes received in the wait loop while the count stays at or below 8: SEQ waits through every cycle. -/
theorem runWords_frameWords_of_wait (bs : List Byte) (s : Mbcore) (hq : s.q = .wait) (hrto : s.rto.toNat < 10)
    (hc : s.rxCount.toNat + bs.length ≤ 8) : runWords s (frameWords bs) = bs.foldl Mbcore.rxStep s := by
  induction bs generalizing s with
  | nil => rfl
  | cons b bs ih =>
    rw [List.length_cons] at hc
    have hcount := rxStep_rxCount_of_room (s := s) b (by omega)
    calc runWords s (frameWords (b :: bs))
      _ = runWords (cycle s (rxWord b)) (frameWords bs) := rfl
      _ = runWords (s.rxStep b) (frameWords bs) := by rw [cycle_rxWord, seqStep_waits false hq (by omega) hrto]
      _ = bs.foldl Mbcore.rxStep (s.rxStep b) := ih _ (by simpa using hq) (by simp) (by omega)

/-- Two bytes from IDLE with no poll pending: whatever DATA_AVAIL was, the sequencer waits when the second one comes. -/
theorem cycle_rxWord_twice_of_idle (b c : Byte) (s : Mbcore) (hq : s.q = .idle) (hp : s.pollFlag = false)
    (hc : s.rxCount.toNat ≤ 6) :
    cycle (cycle s (rxWord b)) (rxWord c) = ((s.setQ .wait).rxStep b).rxStep c := by
  have hcount := rxStep_rxCount_of_room (s := s) b (by omega)
  rw [cycle_rxWord, cycle_rxWord, seqStep_of_idle false hq hp, rxStep_setQ, rxStep_setQ]
  congr 1
  cases s.dataAvail with
  | true => exact seqStep_waits false rfl (hcount.le.trans (by omega)) (by simp)
  | false =>
    rw [seqStep_of_idle false rfl (by simpa using hp)]
    simp [Mbcore.setQ]

/-- From IDLE with no poll pending a frame that keeps the count at or below 8 is received byte by byte, into the wait. -/
theorem runWords_frameWords_of_idle (b c : Byte) (bs : List Byte) (s : Mbcore) (hq : s.q = .idle)
    (hp : s.pollFlag = false) (hc : s.rxCount.toNat + (b :: c :: bs).length ≤ 8) :
    runWords s (frameWords (b :: c :: bs)) = (b :: c :: bs).foldl Mbcore.rxStep (s.setQ .wait) := by
  rw [List.length_cons, List.length_cons] at hc
  have hcount₁ := rxStep_rxCount_of_room (s := s.setQ .wait) b (by rw [Mbcore.setQ_rxCount]; omega)
  have hcount₂ := rxStep_rxCount_of_room (s := (s.setQ .wait).rxStep b) c (by rw [hcount₁, Mbcore.setQ_rxCount]; omega)
  rw [Mbcore.setQ_rxCount] at hcount₁
  calc runWords s (frameWords (b :: c :: bs))
    _ = runWords (cycle (cycle s (rxWord b)) (rxWord c)) (frameWords bs) := rfl
    _ = runWords (((s.setQ .wait).rxStep b).rxStep c) (frameWords bs) := by
      rw [cycle_rxWord_twice_of_idle b c s hq hp (by omega)]
    _ = bs.foldl Mbcore.rxStep (((s.setQ .wait).rxStep b).rxStep c) :=
      runWords_frameWords_of_wait bs _ (by simp) (by simp) (by omega)

/-! ## A run of received bytes, filed -/

/-- Received bytes change the buffer, the count, RTO and DATA_AVAIL, and the last two to fixed values. -/
theorem foldl_rxStep_registers (b : Byte) (bs : List Byte) (s : Mbcore) :
    (b :: bs).foldl Mbcore.rxStep s = { s with
      rxbuf := ((b :: bs).foldl Mbcore.rxStep s).rxbuf
      rxCount := ((b :: bs).foldl Mbcore.rxStep s).rxCount
      rto := 0#Config.wRto
      dataAvail := true } := by
  induction bs generalizing s b with
  | nil => obtain ⟨_, h⟩ | ⟨_, h⟩ := rxStep_cases s b <;> simp [h]
  | cons c bs ih =>
    rw [List.foldl_cons, ih]
    obtain ⟨_, h⟩ | ⟨_, h⟩ := rxStep_cases s b <;> rw [h]

/-- Received bytes are counted while there is room. -/
theorem foldl_rxStep_rxCount_toNat (bs : List Byte) (s : Mbcore) (h : s.rxCount.toNat + bs.length ≤ 9) :
    (bs.foldl Mbcore.rxStep s).rxCount.toNat = s.rxCount.toNat + bs.length := by
  induction bs generalizing s with
  | nil => rfl
  | cons b bs ih =>
    rw [List.length_cons] at h ⊢
    have hcount := rxStep_rxCount_of_room (s := s) b (by omega)
    rw [List.foldl_cons, ih _ (by omega), hcount]
    omega

/-- Received bytes stand from the count on, in arrival order; every other byte is as before (rules R33, R96). -/
theorem foldl_rxStep_buf (bs : List Byte) (s : Mbcore) (i : BufIndex) :
    (bs.foldl Mbcore.rxStep s).buf i =
      if i.val < s.rxCount.toNat then s.buf i else bs.getD (i.val - s.rxCount.toNat) (s.buf i) := by
  induction bs generalizing s with
  | nil => simp
  | cons b bs ih =>
    have hcount := rxStep_rxCount_toNat s b
    have hi := i.isLt
    rw [List.foldl_cons, ih, rxStep_buf]
    rcases lt_trichotomy i.val s.rxCount.toNat with hlt | heq | hgt
    · have hbelow : i.val < (s.rxStep b).rxCount.toNat := by
        split at hcount <;> omega
      rw [if_pos hbelow, if_neg hlt.ne, if_pos hlt]
    · have hroom := rxStep_rxCount_of_room (s := s) b (heq ▸ hi)
      rw [if_pos (by omega), if_pos heq, if_neg (by omega), heq, Nat.sub_self, List.getD_cons_zero]
    · have hroom := rxStep_rxCount_of_room (s := s) b (hgt.trans hi)
      rw [if_neg (by omega), if_neg hgt.ne', if_neg (by omega), hroom,
        show i.val - s.rxCount.toNat = i.val - (s.rxCount.toNat + 1) + 1 by omega, List.getD_cons_succ]

/-- A whole response frame from IDLE with no poll pending and nothing counted (rule R48). -/
theorem runWords_response_of_idle (h l c d : Byte) (s : Mbcore) (hq : s.q = .idle) (hp : s.pollFlag = false)
    (hc : s.rxCount = 0#Config.wCount) :
    ∃ m, runWords s (frameWords (responseBytes h l c d)) = { s with
        q := .wait, rxCount := 7#Config.wCount, rto := 0#Config.wRto, dataAvail := true, rxbuf := m } ∧
      ∀ i : BufIndex, m.read i = (responseBytes h l c d).getD i.val (s.buf i) := by
  have hrun : runWords s (frameWords (responseBytes h l c d)) =
      (responseBytes h l c d).foldl Mbcore.rxStep (s.setQ .wait) :=
    runWords_frameWords_of_idle _ _ _ s hq hp (by simp [hc])
  have hcount : ((responseBytes h l c d).foldl Mbcore.rxStep (s.setQ .wait)).rxCount = 7#Config.wCount := by
    apply BitVec.eq_of_toNat_eq
    rw [foldl_rxStep_rxCount_toNat _ _ (by simp [hc, responseBytes])]
    simp [hc, responseBytes]
  refine ⟨((responseBytes h l c d).foldl Mbcore.rxStep (s.setQ .wait)).rxbuf, ?_, fun i => ?_⟩
  · rw [hrun, ← hcount]
    exact foldl_rxStep_registers _ _ (s.setQ .wait)
  · have hbuf := foldl_rxStep_buf (responseBytes h l c d) (s.setQ .wait) i
    simpa [Mbcore.buf, hc] using hbuf

/-- RESPONSE_FRAME moves MBCORE to where its byte cycles lead (log 6). -/
theorem exec_responseFrame {s : State} {m : Mbcore} {h l c d : Byte}
    (hrun : runWords s.toMbcore (frameWords (responseBytes h l c d)) = m) :
    exec (.responseFrame h l c d) s = .next { s with toMbcore := m } := by
  subst hrun
  rfl

/-- Settles O26: seven byte cycles, filed from index 0 on; indices 7 and 8 are past the frame. -/
theorem responseFrameIsReceived : Obligations.ResponseFrameIsReceived := by
  refine ⟨fun s h l c d => ?_, fun s h l c d hq hp hc => ?_⟩
  · have hwords : frameWords (responseBytes h l c d) =
        [0x201#12, 0x203#12, 0x202#12, 0x200#12 ||| h.setWidth 12, 0x200#12 ||| l.setWidth 12,
          0x200#12 ||| c.setWidth 12, 0x200#12 ||| d.setWidth 12] := by
      simp [frameWords, responseBytes, rxWord_eq, Config.slaveAddr, Config.funcCode, Config.byteCount]
    exact exec_responseFrame (congrArg (runWords s.toMbcore) hwords)
  · obtain ⟨m, hrun, hm⟩ := runWords_response_of_idle h l c d s.toMbcore hq hp hc
    exact ⟨_, exec_responseFrame hrun, rfl, hm 0, hm 1, hm 2, hm 3, hm 4, hm 5, hm 6, hm 7, hm 8⟩

end Sys2Proof.Machine

/-! Proofs about the CRC16 engine (40_crc16.md): its tables, the shift register that CRC_BYTE is without them, and what the
linearity and the injectivity of a step say of the checksum. -/

namespace Sys2Proof.Machine

/-! ## Two bytes as one word (rule R17) -/

theorem joinBytes_eq_append (hi lo : Byte) : joinBytes hi lo = hi ++ lo :=
  (BitVec.setWidth_append_eq_shiftLeft_setWidth_or (w'' := 16)).symm.trans (BitVec.setWidth_eq _)

@[simp] theorem joinBytes_high (hi lo : Byte) : (joinBytes hi lo).extractLsb' 8 8 = hi := by
  rw [joinBytes_eq_append, BitVec.extractLsb'_append_eq_left]

@[simp] theorem joinBytes_low (hi lo : Byte) : (joinBytes hi lo).extractLsb' 0 8 = lo := by
  rw [joinBytes_eq_append, BitVec.extractLsb'_append_eq_right]

theorem joinBytes_inj {hi lo hi' lo' : Byte} : joinBytes hi lo = joinBytes hi' lo' ↔ hi = hi' ∧ lo = lo' := by
  refine ⟨fun h => ⟨?_, ?_⟩, fun ⟨hhi, hlo⟩ => hhi ▸ hlo ▸ rfl⟩
  · simpa using congrArg (BitVec.extractLsb' 8 8) h
  · simpa using congrArg (BitVec.extractLsb' 0 8) h

/-- A word is its two bytes joined. -/
theorem joinBytes_extract (c : Word16) : joinBytes (c.extractLsb' 8 8) (c.extractLsb' 0 8) = c := by
  rw [joinBytes_eq_append]
  exact BitVec.extractLsb'_append_extractLsb' (w := 8) (len := 8)

theorem joinBytes_xor (hi lo hi' lo' : Byte) :
    joinBytes hi lo ^^^ joinBytes hi' lo' = joinBytes (hi ^^^ hi') (lo ^^^ lo') := by
  rw [joinBytes_eq_append, joinBytes_eq_append, joinBytes_eq_append]
  exact BitVec.xor_append

theorem joinBytes_zero_left (lo : Byte) : joinBytes 0#8 lo = lo.setWidth 16 := by simp [joinBytes]

theorem joinBytes_ushiftRight (hi lo : Byte) : joinBytes hi lo >>> 8 = joinBytes 0#8 hi := by
  apply BitVec.eq_of_toNat_eq
  have hlt := lo.isLt
  rw [BitVec.toNat_ushiftRight, Nat.shiftRight_eq_div_pow, joinBytes_toNat, joinBytes_toNat]
  simp only [BitVec.toNat_ofNat]
  omega

/-! ## The shift register (rules R66, R71) -/

theorem polyShift_of_even {c : Word16} (h : c.getLsbD 0 = false) : polyShift c = c >>> 1 :=
  if_neg (h ▸ Bool.false_ne_true)

theorem polyShift_of_odd {c : Word16} (h : c.getLsbD 0 = true) : polyShift c = (c >>> 1) ^^^ 0xA001#16 :=
  if_pos h

@[simp] theorem polyShifts_zero (c : Word16) : polyShifts 0 c = c := rfl

theorem polyShifts_succ (n : Nat) (c : Word16) : polyShifts (n + 1) c = polyShifts n (polyShift c) := rfl

/-- The steps are the iterate of the step that rule R66 writes out. -/
theorem polyShifts_eq_iterate (n : Nat) (c : Word16) :
    polyShifts n c = (fun c : Word16 => if c.getLsbD 0 then (c >>> 1) ^^^ 0xA001#16 else c >>> 1)^[n] c := by
  induction n generalizing c with
  | zero => rfl
  | succ n ih => exact ih (polyShift c)

/-- A step is linear: the shift is, and the polynomial is added once for each odd word. -/
theorem polyShift_xor (a b : Word16) : polyShift (a ^^^ b) = polyShift a ^^^ polyShift b := by
  have hbit : (a ^^^ b).getLsbD 0 = (a.getLsbD 0 ^^ b.getLsbD 0) := BitVec.getLsbD_xor
  have hshift : (a ^^^ b) >>> 1 = (a >>> 1) ^^^ (b >>> 1) := BitVec.ushiftRight_xor_distrib a b 1
  cases ha : a.getLsbD 0 <;> cases hb : b.getLsbD 0 <;> rw [ha, hb] at hbit
  case false.false => rw [polyShift_of_even hbit, polyShift_of_even ha, polyShift_of_even hb, hshift]
  case false.true => rw [polyShift_of_odd hbit, polyShift_of_even ha, polyShift_of_odd hb, hshift, BitVec.xor_assoc]
  case true.false =>
    rw [polyShift_of_odd hbit, polyShift_of_odd ha, polyShift_of_even hb, hshift]
    ac_rfl
  case true.true =>
    calc polyShift (a ^^^ b)
      _ = (a >>> 1) ^^^ (b >>> 1) ^^^ (0xA001#16 ^^^ 0xA001#16) := by
        rw [polyShift_of_even hbit, hshift, BitVec.xor_self, BitVec.xor_zero]
      _ = polyShift a ^^^ polyShift b := by
        rw [polyShift_of_odd ha, polyShift_of_odd hb]
        ac_rfl

theorem polyShifts_xor (n : Nat) (a b : Word16) : polyShifts n (a ^^^ b) = polyShifts n a ^^^ polyShifts n b := by
  induction n generalizing a b with
  | zero => rfl
  | succ n ih => rw [polyShifts_succ, polyShift_xor, ih, polyShifts_succ, polyShifts_succ]

/-- No word but 0 is shifted to 0: bit 15 of a shifted odd word is that of the polynomial. -/
theorem polyShift_eq_zero {c : Word16} (h : polyShift c = 0) : c = 0 := by
  have hhalf : (c >>> 1).toNat = c.toNat / 2 := by rw [BitVec.toNat_ushiftRight, Nat.shiftRight_eq_div_pow, pow_one]
  cases hc : c.getLsbD 0 with
  | false =>
    rw [polyShift_of_even hc] at h
    have heven : c.toNat % 2 = 0 := by simpa [BitVec.getLsbD, Nat.testBit_zero] using hc
    have hzero : c.toNat / 2 = 0 := by rw [← hhalf, h]; rfl
    have hnat : c.toNat = 0 := by omega
    exact BitVec.eq_of_toNat_eq hnat
  | true =>
    rw [polyShift_of_odd hc] at h
    have hpoly : c.toNat / 2 = 0xA001 := by rw [← hhalf, BitVec.xor_eq_zero_iff.mp h]; rfl
    have := c.isLt
    omega

theorem polyShift_injective : Function.Injective polyShift := fun a b h =>
  BitVec.xor_eq_zero_iff.mp (polyShift_eq_zero (by rw [polyShift_xor, h, BitVec.xor_self]; rfl))

theorem polyShifts_injective (n : Nat) : Function.Injective (polyShifts n) := by
  induction n with
  | zero => exact Function.injective_id
  | succ n ih => exact ih.comp polyShift_injective

/-- Steps that meet zero bits alone only shift. -/
theorem polyShifts_eq_ushiftRight {n : Nat} {c : Word16} (h : ∀ i < n, c.getLsbD i = false) :
    polyShifts n c = c >>> n := by
  induction n generalizing c with
  | zero => simp
  | succ n ih =>
    have hshift : ∀ i < n, (c >>> 1).getLsbD i = false := fun i hi => by
      rw [BitVec.getLsbD_ushiftRight]
      exact h (1 + i) (by omega)
    rw [polyShifts_succ, polyShift_of_even (h 0 n.succ_pos), ih hshift, ← BitVec.shiftRight_add, Nat.add_comm 1 n]

/-- Eight steps move a high byte down. -/
theorem polyShifts_high (hi : Byte) : polyShifts 8 (joinBytes hi 0#8) = joinBytes 0#8 hi := by
  rw [polyShifts_eq_ushiftRight, joinBytes_ushiftRight]
  intro i hi8
  simp [joinBytes, hi8]

theorem polyShifts_low (i : Byte) : polyShifts 8 (joinBytes 0#8 i) = tgen i := by rw [joinBytes_zero_left, tgen]

@[simp] theorem tgen_zero : tgen 0#8 = 0x0000#16 := rfl

/-! ## The tables (rules R66, R67, R68) -/

/-- The printed entries, all 256 of them compared with the generator. -/
theorem joinBytes_tables (i : Byte) : joinBytes (tabHi i) (tabLo i) = tgen i := by
  revert i
  decide +kernel

/-- Settles O29: the printed entries joined are TGEN. -/
theorem printedTablesAreTheGenerator : Obligations.PrintedTablesAreTheGenerator := by
  refine fun i => ⟨polyShifts_eq_iterate 8 _, ?_, ?_⟩ <;> simp [← joinBytes_tables i]

/-! ## CRC_BYTE without tables (rules R69, R71) -/

/-- The table form by TGEN: the new low byte is the table's, with the old high byte moved down onto it. -/
theorem crcByte_value_eq_tgen (p : CrcPair) (b : Byte) :
    (crcByte p b).value = (p.value >>> 8) ^^^ tgen (p.value.extractLsb' 0 8 ^^^ b) := by
  rw [CrcPair.value, CrcPair.value, joinBytes_ushiftRight, joinBytes_low, ← joinBytes_tables, joinBytes_xor,
    BitVec.zero_xor, crcByte]

/-- The bit-serial form by TGEN: the high byte meets no polynomial in eight steps. -/
theorem crcByteSerial_joinBytes (hi lo b : Byte) :
    crcByteSerial (joinBytes hi lo) b = joinBytes 0#8 hi ^^^ tgen (lo ^^^ b) := by
  have hsplit : joinBytes hi lo ^^^ b.setWidth 16 = joinBytes hi 0#8 ^^^ joinBytes 0#8 (lo ^^^ b) := by
    simp [← joinBytes_zero_left, joinBytes_xor]
  rw [crcByteSerial, hsplit, polyShifts_xor, polyShifts_high, polyShifts_low]

/-- Rule R71: the two forms of CRC_BYTE agree. -/
theorem crcByte_value (p : CrcPair) (b : Byte) : (crcByte p b).value = crcByteSerial p.value b := by
  rw [crcByte_value_eq_tgen, CrcPair.value, crcByteSerial_joinBytes, joinBytes_ushiftRight, joinBytes_low]

/-- Settles O31, by TGEN in both forms. -/
theorem crcByteIsBitSerial : Obligations.CrcByteIsBitSerial := fun p b =>
  ⟨(crcByte_value p b).trans (polyShifts_eq_iterate 8 _), crcByte_value_eq_tgen p b, (joinBytes_high _ _).symm,
    (joinBytes_low _ _).symm⟩

/-! ## CRC16 on the 16-bit value (rule R72) -/

theorem crcBytes_value (p : CrcPair) (bs : List Byte) : (crcBytes p bs).value = bs.foldl crcByteSerial p.value := by
  induction bs generalizing p with
  | nil => rfl
  | cons b bs ih =>
    calc (crcBytes (crcByte p b) bs).value
      _ = bs.foldl crcByteSerial (crcByte p b).value := ih _
      _ = (b :: bs).foldl crcByteSerial p.value := by rw [crcByte_value, List.foldl_cons]

/-- Appending bytes continues the computation (rule R73). -/
theorem crc16_append (m bs : List Byte) : crc16 (m ++ bs) = bs.foldl crcByteSerial (crc16 m) := by
  rw [crc16, crc16, crcBytes_value, crcBytes_value, List.foldl_append]

/-- Settles O32, by evaluating the table form on the rule's inputs. -/
theorem crc16CornerCases : Obligations.Crc16CornerCases := by
  unfold Obligations.Crc16CornerCases
  decide +kernel

/-! ## Linearity and residue (rule R76 (a), (c)) -/

theorem crcByteSerial_xor (c d : Word16) (a b : Byte) :
    crcByteSerial (c ^^^ d) (a ^^^ b) = crcByteSerial c a ^^^ crcByteSerial d b := by
  rw [crcByteSerial, crcByteSerial, crcByteSerial, ← polyShifts_xor, BitVec.setWidth_xor]
  congr 1
  ac_rfl

theorem foldl_crcByteSerial_xor (m e : List Byte) (c d : Word16) (h : m.length = e.length) :
    (List.zipWith (fun a b => a ^^^ b) m e).foldl crcByteSerial (c ^^^ d) =
      m.foldl crcByteSerial c ^^^ e.foldl crcByteSerial d := by
  induction m generalizing e c d with
  | nil =>
    obtain rfl : e = [] := List.length_eq_zero_iff.mp h.symm
    rfl
  | cons a m ih =>
    obtain ⟨b, e, rfl⟩ := List.exists_cons_of_length_eq_add_one h.symm
    rw [List.zipWith_cons_cons, List.foldl_cons, crcByteSerial_xor, ih _ _ _ (Nat.succ.inj h), List.foldl_cons,
      List.foldl_cons]

/-- Settles O33, by induction on the bytes from any two running values; those of CRC16 and CRC16z are 0xFFFF and 0. -/
theorem crc16IsAffine : Obligations.Crc16IsAffine := by
  intro m e h
  simp only [crc16, crc16z, crcBytes_value]
  exact foldl_crcByteSerial_xor m e crcInit.value 0 h

/-- A byte equal to the low byte of the running value cancels it: eight zero bits are shifted out. -/
theorem crcByteSerial_joinBytes_self (hi lo : Byte) : crcByteSerial (joinBytes hi lo) lo = joinBytes 0#8 hi := by
  rw [crcByteSerial_joinBytes, BitVec.xor_self, tgen_zero, BitVec.xor_zero]

/-- Settles O35: each of the two appended bytes cancels the low byte of the value it meets. -/
theorem residueIsZero : Obligations.ResidueIsZero := by
  intro m
  generalize hlo : (crc16 m).extractLsb' 0 8 = lo
  generalize hhi : (crc16 m).extractLsb' 8 8 = hi
  have hsum : crc16 m = joinBytes hi lo := by rw [← hhi, ← hlo, joinBytes_extract]
  calc crc16 (m ++ [lo, hi])
    _ = crcByteSerial (crcByteSerial (joinBytes hi lo) lo) hi := by rw [crc16_append, hsum]; rfl
    _ = joinBytes 0#8 0#8 := by rw [crcByteSerial_joinBytes_self, crcByteSerial_joinBytes_self]

/-! ## Single-bit flips (rule R76 (b)) -/

/-- With the same byte, different running values stay different. -/
theorem crcByteSerial_injective_left (b : Byte) : Function.Injective (crcByteSerial · b) :=
  (polyShifts_injective 8).comp fun _ _ h => (BitVec.xor_left_inj _).mp h

/-- From the same running value, different bytes lead to different values. -/
theorem crcByteSerial_injective_right (c : Word16) : Function.Injective (crcByteSerial c) := by
  intro a b h
  have hwide : a.setWidth 16 = b.setWidth 16 := (BitVec.xor_right_inj _).mp (polyShifts_injective 8 h)
  exact (joinBytes_inj.mp (by rwa [joinBytes_zero_left, joinBytes_zero_left] : joinBytes 0#8 a = joinBytes 0#8 b)).2

theorem foldl_crcByteSerial_injective (bs : List Byte) : Function.Injective (bs.foldl crcByteSerial) := by
  induction bs with
  | nil => exact Function.injective_id
  | cons b bs ih => exact ih.comp (crcByteSerial_injective_left b)

/-- A change of one byte, whatever it is, changes the checksum. -/
theorem crc16_modify_ne {m : List Byte} {i : Nat} {f : Byte → Byte} (hi : i < m.length) (hf : ∀ b, f b ≠ b) :
    crc16 (m.modify i f) ≠ crc16 m := by
  obtain ⟨pre, b, post, rfl, _, hmod⟩ := List.exists_of_modify f hi
  rw [hmod, crc16_append, crc16_append]
  exact fun h => hf b (crcByteSerial_injective_right _ (foldl_crcByteSerial_injective post h))

/-- The check of a changed frame, the covered bytes apart from the two that hold the checksum. -/
theorem frameChecks_modify (frame : List Byte) (i : Nat) (f : Byte → Byte) :
    frameChecks (frame.modify i f) ↔
      crc16 ((frame.take 5).modify i f) = joinBytes ((frame.modify i f).getD 6 0) ((frame.modify i f).getD 5 0) := by
  rw [frameChecks, Config.crcLen, List.take_modify]

theorem getD_modify_self {m : List Byte} {i : Nat} (hi : i < m.length) (f : Byte → Byte) :
    (m.modify i f).getD i 0 = f (m.getD i 0) := by simp [hi]

theorem getD_modify_of_ne {i k : Nat} (h : i ≠ k) (m : List Byte) (f : Byte → Byte) :
    (m.modify i f).getD k 0 = m.getD k 0 := by simp [List.getD_eq_getElem?_getD, h]

/-- A change of one byte of a frame whose check holds, whatever it is, makes the check fail: a covered byte changes the
checksum and not the bytes it is compared with, a checksum byte the other way round. -/
theorem not_frameChecks_modify {frame : List Byte} {i : Nat} {f : Byte → Byte} (hlen : frame.length = 7)
    (hc : frameChecks frame) (hi : i < 7) (hf : ∀ b, f b ≠ b) : ¬ frameChecks (frame.modify i f) := by
  rw [frameChecks, Config.crcLen] at hc
  rw [frameChecks_modify]
  have hcovered (h5 : 5 ≤ i) : (frame.take 5).modify i f = frame.take 5 :=
    List.modify_eq_self ((List.length_take_le _ _).trans h5)
  obtain hhead | rfl | rfl : i < 5 ∨ i = 5 ∨ i = 6 := by omega
  · rw [getD_modify_of_ne (by omega), getD_modify_of_ne (by omega), ← hc]
    exact crc16_modify_ne (by simpa [hlen] using hhead) hf
  · rw [hcovered (by omega), hc, joinBytes_inj, getD_modify_self (by omega)]
    exact fun ⟨_, hlo⟩ => hf _ hlo.symm
  · rw [hcovered (by omega), hc, joinBytes_inj, getD_modify_self (by omega)]
    exact fun ⟨hhi, _⟩ => hf _ hhi.symm

theorem xor_bit_ne {j : Nat} (hj : j < 8) (b : Byte) : b ^^^ (1#8 <<< j) ≠ b := by
  intro h
  have hzero : 1#8 <<< j = 0#8 := (BitVec.xor_right_inj b).mp (h.trans BitVec.xor_zero.symm)
  simpa [hj] using congrArg (BitVec.getLsbD · j) hzero

/-- Settles O34: a flipped bit changes its byte. -/
theorem everySingleBitFlipIsCaught : Obligations.EverySingleBitFlipIsCaught :=
  fun _ _ _ hlen hc hi hj => not_frameChecks_modify hlen hc hi (xor_bit_ne hj)

end Sys2Proof.Machine

/-! Proofs about the poll trigger and the send sequence (41_poll_trigger.md): the tick counter modulo 101, the choice in IDLE,
and the request bytes that leave in TX0 to TX7. -/

namespace Sys2Proof.Machine

/-! ## The micro-operations of the send sequence (rules R84, R85, R87) -/

/-- Settles O17: the three ways IDLE can go, by POLL_FLAG and then DATA_AVAIL. -/
theorem idleChooses : Obligations.IdleChooses := by
  intro s
  have idle : exec .idle s = .next (s.onCore microIdle) := rfl
  refine ⟨fun hp => ?_, fun hp hd => ?_, fun hp hd => ?_⟩
  · simp [idle, State.onCore, microIdle, hp, Mbcore.setDir, Mbcore.setQ]
  · simp [idle, State.onCore, microIdle, hp, hd, Mbcore.setQ]
  · simp [idle, State.onCore, microIdle, hp, hd, Mbcore.setQ]

/-- A row that presents a request byte writes Q alone (rule R85). -/
theorem onCore_presentByte (s : State) (here next : SeqState) :
    s.onCore (presentByte here next s.txReady) = { s with q := if s.txReady then next else here } := by
  simp [State.onCore, presentByte_eq, Mbcore.setQ]

/-- Settles O18: each of the eight rows presents its byte. -/
theorem sendStatesWaitForReady : Obligations.SendStatesWaitForReady := by
  intro s
  have sent (here next : SeqState) :
      (.next (s.onCore (presentByte here next s.txReady)) : Host.Outcome State Fault Refusal) =
        .next { s with q := if s.txReady then next else here } := congrArg _ (onCore_presentByte s here next)
  exact ⟨sent .tx0 .tx1, sent .tx1 .tx2, sent .tx2 .tx3, sent .tx3 .tx4, sent .tx4 .tx5, sent .tx5 .tx6, sent .tx6 .tx7,
    sent .tx7 .txend⟩

/-- Settles O19: the five writes of the row, one record update. -/
theorem txendClearsBookkeeping : Obligations.TxendClearsBookkeeping := fun _ => rfl

/-! ## The poll tick counter (rules R81, R83) -/

/-- PTC after a cycle: one more modulo 101 with a tick, as before without one (rules R81, R138). -/
theorem cycle_ptc_toNat {s : Mbcore} {w : InputWord} (hptc : s.ptc.toNat ≤ 100) (hrst : inputRst w = false) :
    (cycle s w).ptc.toNat = (s.ptc.toNat + (inputTick w).toNat) % 101 := by
  have tick : (if 100 < s.ptc.toNat + 1 then 0 else s.ptc.toNat + 1) = (s.ptc.toNat + 1) % 101 := by split <;> omega
  have stay : s.ptc.toNat = s.ptc.toNat % 101 := by omega
  rcases cycle_cases s w with ⟨hr, _⟩ | ⟨_, ht, _, e⟩ | ⟨_, ht, _, e⟩ | ⟨_, ht, _, e⟩ | ⟨_, ht, _, e⟩
  · simp [hrst] at hr
  · simpa [e, ht] using stay
  · simpa [e, ht, tickStep_ptc_toNat] using tick
  · simpa [e, ht] using stay
  · simpa [e, ht, tickStep_ptc_toNat] using tick

/-- PTC counts the ticks of a program without reset modulo 101 (rule R83). -/
theorem runWords_ptc_toNat (ws : List InputWord) (s : Mbcore) (hptc : s.ptc.toNat ≤ 100) (hrst : noReset ws) :
    (runWords s ws).ptc.toNat = (s.ptc.toNat + tickCount ws) % 101 := by
  induction ws generalizing s with
  | nil => exact (Nat.mod_eq_of_lt (Nat.lt_succ_of_le hptc)).symm
  | cons w ws ih =>
    obtain ⟨hw, hws⟩ := List.forall_mem_cons.mp hrst
    have hcycle := cycle_ptc_toNat hptc hw
    have hcount : tickCount (w :: ws) = tickCount ws + (inputTick w).toNat := by
      cases ht : inputTick w <;> simp [tickCount, ht]
    have hrun : (runWords s (w :: ws)).ptc.toNat = ((cycle s w).ptc.toNat + tickCount ws) % 101 :=
      ih (cycle s w) (by omega) hws
    omega

/-- The tick that finds PTC at 100 sets POLL_FLAG, whatever SEQ does in the cycle (rules R81, R138). -/
theorem cycle_pollFlag_of_tick {s : Mbcore} {w : InputWord} (hrst : inputRst w = false) (htick : inputTick w = true)
    (hptc : s.ptc = 100#Config.wPtc) : (cycle s w).pollFlag = true := by
  have hfires : (seqStep (inputTxReady w) s).pollFires = true := by
    simp [Mbcore.pollFires, hptc, Config.pollThreshold]
  have hflag : (seqStep (inputTxReady w) s).tickStep.pollFlag = true := by simp [tickStep_eq, hfires]
  cases hx : inputRxValid w <;> simp [cycle, hrst, htick, hx, hflag]

/-- Settles O23: the count by induction over the program, the flag by the one cycle. -/
theorem pollCounterCountsModulo101 : Obligations.PollCounterCountsModulo101 := fun s ws hptc hrst =>
  ⟨runWords_ptc_toNat ws s hptc hrst, fun _ => cycle_pollFlag_of_tick⟩

/-! ## The request bytes on the line (rules R85, R86) -/

/-- SEQ with a request byte presented moves Q one code on where the transport is ready, and not at all otherwise. -/
theorem seqStep_code_of_txIndex {s : Mbcore} {i : Fin 8} (hi : s.q.txIndex = some i) (r : Bool) :
    (seqStep r s).q.code.toNat = s.q.code.toNat + r.toNat := by
  cases hq : s.q
  case tx0 | tx1 | tx2 | tx3 | tx4 | tx5 | tx6 | tx7 =>
    simp only [seqStep, hq, microTx0, microTx1, microTx2, microTx3, microTx4, microTx5, microTx6, microTx7,
      presentByte_eq]
    cases r <;> rfl
  all_goals simp [hq, SeqState.txIndex] at hi

/-- Without tx_ready no request byte is transferred (rule R86). -/
theorem transfer_of_not_ready (s : Mbcore) {w : InputWord} (h : inputTxReady w = false) : s.transfer w = none := by
  simp [Mbcore.transfer, h]

theorem readyCount_cons (w : InputWord) (ws : List InputWord) :
    readyCount (w :: ws) = readyCount ws + (inputTxReady w).toNat := by
  cases h : inputTxReady w <;> simp [readyCount, h]

/-- A program without a ready cycle transfers nothing, from whatever state. -/
theorem transfers_of_readyCount_zero (ws : List InputWord) (s : Mbcore) (h : readyCount ws = 0) :
    transfers s ws = [] := by
  induction ws generalizing s with
  | nil => rfl
  | cons w ws ih =>
    rw [readyCount_cons] at h
    have hw : inputTxReady w = false := by simpa using (Nat.add_eq_zero_iff.mp h).2
    simp [transfers, transfer_of_not_ready s hw, ih _ (Nat.add_eq_zero_iff.mp h).1]

/-- From TXi (TXEND for i = 8), with no more ready cycles than request bytes left, the bytes transferred are the next ones
of the frame, one for each ready cycle. -/
theorem transfers_of_code (ws : List InputWord) (s : Mbcore) (i : Nat) (hq : s.q.code.toNat = i + 1) (hrst : noReset ws)
    (hready : i + readyCount ws ≤ 8) : transfers s ws = (requestBytes.drop i).take (readyCount ws) := by
  induction ws generalizing s i with
  | nil => rfl
  | cons w ws ih =>
    by_cases hnone : readyCount (w :: ws) = 0
    · simp [hnone, transfers_of_readyCount_zero]
    have hlt : i < 8 := by omega
    have hi : s.q.txIndex = some ⟨i, hlt⟩ := (s.q.txIndex_eq_some_iff _).mpr hq
    obtain ⟨hw, hws⟩ := List.forall_mem_cons.mp hrst
    obtain ⟨_, _, _, _, _, hseq⟩ := cycle_seq_registers s hw
    have hcode : (cycle s w).q.code.toNat = i + 1 + (inputTxReady w).toNat := by
      rw [hseq, seqStep_code_of_txIndex hi, hq]
    rw [readyCount_cons] at hready ⊢
    cases hr : inputTxReady w with
    | false =>
      rw [hr] at hcode hready
      simpa [transfers, transfer_of_not_ready s hr] using ih _ i hcode hws hready
    | true =>
      rw [hr] at hcode hready
      have hrest := ih _ (i + 1) hcode hws (by simp at hready; omega)
      have hlen : i < requestBytes.length := hlt
      calc transfers s (w :: ws)
        _ = reqByte ⟨i, hlt⟩ :: (requestBytes.drop (i + 1)).take (readyCount ws) := by
          simp [transfers, transfer_of_txIndex hi hw hr, hrest]
        _ = (requestBytes[i] :: requestBytes.drop (i + 1)).take (readyCount ws + 1) := by
          rw [reqByte, List.getD_eq_getElem _ _ hlen, List.take_succ_cons]
        _ = (requestBytes.drop i).take (readyCount ws + 1) := by rw [← List.drop_eq_getElem_cons hlen]

/-- Settles O20: TX0 is where the whole frame is left to send. -/
theorem requestBytesGoOutInOrder : Obligations.RequestBytesGoOutInOrder := by
  intro s ws hq hrst hready
  exact transfers_of_code ws s 0 (by rw [hq]; rfl) hrst (by omega)

end Sys2Proof.Machine

/-! Proofs about the frame receiver (42_receiver.md): the exit condition of the wait loop, and the bound on the wait where
no byte comes. -/

namespace Sys2Proof.Machine

/-! ## The exit of the wait loop (rule R100) -/

/-- The row WAIT writes Q alone, by the exit condition. -/
theorem exec_wait (s : State) : exec .wait s = .next { s with q := if s.waitOver then .gate else .wait } := by
  have wait : exec .wait s = .next (s.onCore microWait) := rfl
  cases hw : s.waitOver <;> simp [wait, State.onCore, microWait, hw, Mbcore.setQ]

/-- Where a cycle without reset takes Q from WAIT: the exit condition is tested on the state at its start (rules R100, R138). -/
theorem cycle_q_of_wait {s : Mbcore} {w : InputWord} (hq : s.q = .wait) (hrst : inputRst w = false) :
    (cycle s w).q = if s.waitOver then .gate else .wait := by
  obtain ⟨_, _, _, _, _, hseq⟩ := cycle_seq_registers s hrst
  rw [hseq, seqStep_of_wait _ hq, Mbcore.setQ_q]

/-- Settles O24: the row and the cycle, each by the exit condition. -/
theorem waitExitCondition : Obligations.WaitExitCondition := by
  refine ⟨fun s hover => ?_, fun s hstay => ?_, fun s w hq hrst => ?_⟩
  · rw [exec_wait, if_pos ((waitOver_iff _).mpr hover)]
  · rw [exec_wait, if_neg (mt (waitOver_iff _).mp hstay)]
  · rw [cycle_q_of_wait hq hrst, ← waitOver_iff]
    cases s.waitOver <;> simp

/-! ## The bound on the wait (rules R97, R107) -/

/-- In a cycle without a byte, outside TXEND and below the cap, RTO counts the tick (rules R97, R101). -/
theorem cycle_rto_toNat {s : Mbcore} {w : InputWord} (hrst : inputRst w = false) (hbyte : inputRxValid w = false)
    (hq : s.q ≠ .txend) (hrto : s.rto.toNat < 100) :
    (cycle s w).rto.toNat = s.rto.toNat + (inputTick w).toNat := by
  have hseq : (seqStep (inputTxReady w) s).rto = s.rto := by rw [seqStep_rto, if_neg hq]
  cases ht : inputTick w with
  | false => simp [cycle, hrst, hbyte, ht, hseq]
  | true => simp [cycle, hrst, hbyte, ht, tickStep_rto_toNat, hseq, hrto]

theorem tickCount_cons (w : InputWord) (ws : List InputWord) :
    tickCount (w :: ws) = tickCount ws + (inputTick w).toNat := by
  cases h : inputTick w <;> simp [tickCount, h]

theorem byteCountOf_cons (w : InputWord) (ws : List InputWord) :
    byteCountOf (w :: ws) = byteCountOf ws + (inputRxValid w).toNat := by
  cases h : inputRxValid w <;> simp [byteCountOf, h]

/-- From WAIT, with no byte to come and ten ticks counted or to come, Q reaches GATE at the latest one word after them: each
word either finds the wait over or leaves the sequencer waiting with its tick counted. -/
theorem wait_reaches_gate (ws : List InputWord) (w : InputWord) (s : Mbcore) (hq : s.q = .wait) (hrst : noReset (ws ++ [w]))
    (hbyte : byteCountOf ws = 0) (hticks : 10 ≤ s.rto.toNat + tickCount ws) :
    ∃ n ≤ ws.length + 1, (runWords s ((ws ++ [w]).take n)).q = .gate := by
  induction ws generalizing s with
  | nil =>
    have hover : s.waitOver = true := (waitOver_iff s).mpr (.inr hticks)
    have hgate : (cycle s w).q = .gate := by rw [cycle_q_of_wait hq (hrst w (by simp)), if_pos hover]
    exact ⟨1, Nat.le_refl 1, hgate⟩
  | cons v ws ih =>
    obtain ⟨hv, hws⟩ := List.forall_mem_cons.mp hrst
    have hcycle := cycle_q_of_wait hq hv
    by_cases hover : s.waitOver = true
    · rw [if_pos hover] at hcycle
      exact ⟨1, Nat.le_add_left 1 _, hcycle⟩
    · rw [if_neg hover] at hcycle
      rw [waitOver_iff] at hover
      rw [byteCountOf_cons, Nat.add_eq_zero_iff, Bool.toNat_eq_zero] at hbyte
      obtain ⟨hrest, hnone⟩ := hbyte
      have hrto := cycle_rto_toNat (s := s) hv hnone (by simp [hq]) (by omega)
      rw [tickCount_cons] at hticks
      obtain ⟨n, hn, hgate⟩ := ih (cycle s v) hcycle hws hrest (by omega)
      exact ⟨n + 1, Nat.succ_le_succ hn, hgate⟩

/-- Settles O28: ten ticks to come are enough whatever RTO is. -/
theorem waitEndsAfterTenTicks : Obligations.WaitEndsAfterTenTicks := fun s ws w hq hrst hbyte hticks =>
  wait_reaches_gate ws w s hq hrst hbyte (Nat.le_add_left_of_le hticks)

end Sys2Proof.Machine

/-! Proofs about the validator and decoder (43_validator.md): its rows, the validation in progress, what a frame that is VALID
at GATE leads to, and that no result depends on a stale buffer byte. -/

namespace Sys2Proof.Machine

/-! ## The rows of the validator (rules R111, R114, R118, R120) -/

/-- GATE's label where it does not pass: the count is tested before any byte is read (rules R111, R150). -/
theorem gateVerdict_of_not_pass {s : Mbcore}
    (h : ¬ (7 ≤ s.rxCount.toNat ∧ s.buf 0 = 0x01#8 ∧ s.buf 1 = 0x03#8 ∧ s.buf 2 = 0x02#8)) :
    s.gateVerdict = some (if s.rxCount.toNat < 7 then .short else .badHeader) := by
  cases hv : s.gateVerdict with
  | none => exact absurd ((gateVerdict_none s).mp hv) h
  | some v =>
    by_cases hshort : s.rxCount.toNat < 7
    · simpa [Mbcore.gateVerdict, Config.decodeMinCount, hshort, eq_comm] using hv
    · rw [Mbcore.gateVerdict, Config.decodeMinCount, if_neg hshort] at hv
      rw [if_neg hshort]
      split_ifs at hv <;> exact hv.symm

/-- Settles O36: the two ways GATE can go, by its label. -/
theorem gateChecksCountAndHeader : Obligations.GateChecksCountAndHeader := by
  intro s
  have gate : exec .gate s = .next (s.onCore microGate) := rfl
  refine ⟨fun hpass => ?_, fun hfail => ?_⟩
  · have hverdict := (gateVerdict_none s.toMbcore).mpr hpass
    exact ⟨by simp [gate, State.onCore, microGate, hverdict]; rfl, hverdict⟩
  · have hverdict := gateVerdict_of_not_pass hfail
    exact ⟨by simp [gate, State.onCore, microGate, hverdict, Mbcore.setQ], hverdict⟩

/-- Settles O37: the five rows are one CRC step at their indices, a record update. -/
theorem crcStatesTakeInTheirByte : Obligations.CrcStatesTakeInTheirByte := fun _ => ⟨rfl, rfl, rfl, rfl, rfl⟩

/-- The comparison of CMP on numbers (rules R49, R118). -/
theorem crcMatches_iff_toNat (s : Mbcore) :
    s.crcMatches = true ↔ s.crcHi.toNat * 256 + s.crcLo.toNat = (s.buf 5).toNat + 256 * (s.buf 6).toNat := by
  have hreg : s.crcPair.value.toNat = s.crcHi.toNat * 256 + s.crcLo.toNat := joinBytes_toNat _ _
  have hframe : s.frameChecksum.toNat = (s.buf 6).toNat * 256 + (s.buf 5).toNat := joinBytes_toNat _ _
  rw [Mbcore.crcMatches, beq_iff_eq, ← BitVec.toNat_inj, hreg, hframe]
  omega

/-- The pressure field as the word of a number (rule R49). -/
theorem framePressure_eq_ofNat (s : Mbcore) :
    s.framePressure = BitVec.ofNat 16 ((s.buf 3).toNat * 256 + (s.buf 4).toNat) := by
  rw [← joinBytes_toNat, BitVec.ofNat_toNat, BitVec.setWidth_eq, Mbcore.framePressure]

/-- Settles O38: the two ways CMP can go, by the comparison on numbers. -/
theorem cmpLatchesPressureOnMatch : Obligations.CmpLatchesPressureOnMatch := by
  intro s
  have cmp : exec .cmp s = .next (s.onCore microCmp) := rfl
  refine ⟨fun hmatch => ?_, fun hmiss => ?_⟩
  · have hc : s.crcMatches = true := (crcMatches_iff_toNat _).mpr hmatch
    refine ⟨?_, by simp [Mbcore.cmpVerdict, hc]⟩
    rw [cmp, ← framePressure_eq_ofNat]
    simp [State.onCore, microCmp, hc, Mbcore.setPressure, Mbcore.setPresUpd, Mbcore.setQ]
  · have hc : s.crcMatches = false := Bool.eq_false_iff.mpr (mt (crcMatches_iff_toNat _).mp hmiss)
    refine ⟨?_, by simp [Mbcore.cmpVerdict, hc]⟩
    simp [cmp, State.onCore, microCmp, hc, Mbcore.setQ]

/-- Settles O39: the four writes of the row, one record update. -/
theorem clrResetsTheReceiveState : Obligations.ClrResetsTheReceiveState := fun _ => rfl

/-! ## The checksum of a response and the digits of the display (rules R119, R121) -/

/-- Settles O41: the checksum bytes are the two halves of CRC16. -/
theorem eachPressureHasOneValidFrame : Obligations.EachPressureHasOneValidFrame := by
  intro h l
  have valid (p : Byte × Byte) :
      (Instr.responseFrame h l p.1 p.2).wellFormed = true ↔ crc16 (responseHead h l) = joinBytes p.2 p.1 := beq_iff_eq
  simp only [valid]
  refine ⟨((crc16 (responseHead h l)).extractLsb' 0 8, (crc16 (responseHead h l)).extractLsb' 8 8),
    (joinBytes_extract _).symm, fun p hp => ?_⟩
  rw [hp, joinBytes_low, joinBytes_high]

theorem digit_le_nine (p : Word16) (k : Nat) : digit p k ≤ 9 := Nat.le_of_lt_succ (Nat.mod_lt _ (by decide))

/-- The code of a digit fits a byte, so nothing is lost in the sum (rule R58). -/
theorem dispChar_toNat (p : Word16) (j : Nat) : (dispChar p j).toNat = 0x30 + digit p (4 - j) := by
  have hd := digit_le_nine p (4 - j)
  rw [dispChar, Config.digitZero, BitVec.toNat_add, BitVec.toNat_ofNat, BitVec.toNat_ofNat]
  omega

/-- Settles O45: PRESSURE is below 65536, so five digits hold it and the first is at most 6. -/
theorem digitsSpellThePressure : Obligations.DigitsSpellThePressure := by
  intro p
  have hp : p.toNat < 65536 := p.isLt
  refine ⟨?_, digit_le_nine p, ?_, fun j _ => dispChar_toNat p j⟩ <;> simp only [digit] <;> omega

/-! ## The validator's states (rules R111, R114) -/

/-- The CRC states are none of the two states in which SEQ zeroes the count (rules R87, R120). -/
theorem SeqState.ne_of_crcDone_eq_some {q : SeqState} {k : Nat} (h : q.crcDone = some k) : q ≠ .txend ∧ q ≠ .clr := by
  constructor <;> rintro rfl <;> simp [SeqState.crcDone] at h

/-- The two ways SEQ can lead to a CRC state: GATE passes, or one more byte is taken in. -/
theorem seqStep_crcDone_cases {r : Bool} {s : Mbcore} {k : Nat} (h : (seqStep r s).q.crcDone = some k) :
    (k = 0 ∧ s.gateVerdict = none ∧ ∃ x, seqStep r s = (s.setCrc crcInit).setQ x) ∨
    (∃ (i : BufIndex) (x : SeqState), s.q.crcDone = some i.val ∧ i.val < 5 ∧ k = i.val + 1 ∧
      seqStep r s = (s.setCrc (crcByte s.crcPair (s.buf i))).setQ x) := by
  rcases seqStep_cases r s with
    ⟨_, _, e⟩ | ⟨_, _, _, e⟩ | ⟨hq, _, _, e⟩ | ⟨i, hi, _, e⟩ | ⟨i, x, _, _, _, _, hx, e⟩ | ⟨_, e⟩ | ⟨_, _, e⟩ |
    ⟨hq, _, e⟩ | ⟨_, hv, e⟩ | ⟨v, _, _, e⟩ | ⟨i, x, hstate, e⟩ | ⟨_, _, e⟩ | ⟨_, _, e⟩ | ⟨_, e⟩ <;> rw [e] at h
  case inr.inr.inr.inl =>
    cases hq : s.q <;> simp [hq, SeqState.txIndex, SeqState.crcDone] at hi h
  case inr.inr.inr.inr.inl =>
    cases x <;> simp [SeqState.txIndex, SeqState.crcDone] at hx h
  case inr.inr.inr.inr.inr.inr.inr.inr.inl =>
    exact .inl ⟨(Option.some.inj h).symm, hv, _, e⟩
  case inr.inr.inr.inr.inr.inr.inr.inr.inr.inr.inl =>
    refine .inr ⟨i, x, ?_⟩
    rcases hstate with ⟨hq, rfl, rfl⟩ | ⟨hq, rfl, rfl⟩ | ⟨hq, rfl, rfl⟩ | ⟨hq, rfl, rfl⟩ | ⟨hq, rfl, rfl⟩ <;>
      exact ⟨congrArg SeqState.crcDone hq, by decide, (Option.some.inj h).symm, e⟩
  all_goals simp_all [SeqState.crcDone]

/-! ## The validation in progress (rules R115, R116) -/

/-- The count that passed GATE still stands (rule R116): the part of `ValidationHolds` that reads neither the buffer nor the
CRC registers, and is kept on its own. -/
def Mbcore.CountStands (s : Mbcore) : Prop := ∀ k, s.q.crcDone = some k → 7 ≤ s.rxCount.toNat

theorem countStands_of_le {s t : Mbcore} (h : s.CountStands) (hq : t.q = s.q) (hc : s.rxCount.toNat ≤ t.rxCount.toNat) :
    t.CountStands := fun k hk => (h k (hq ▸ hk)).trans hc

theorem countStands_seqStep (r : Bool) {s : Mbcore} (h : s.CountStands) : (seqStep r s).CountStands := by
  intro k hk
  obtain ⟨_, hpass, x, e⟩ | ⟨i, x, hi, _, _, e⟩ := seqStep_crcDone_cases hk <;> rw [e]
  · exact ((gateVerdict_none s).mp hpass).1
  · exact h _ hi

theorem rxStep_rxCount_le (s : Mbcore) (b : Byte) : s.rxCount.toNat ≤ (s.rxStep b).rxCount.toNat := by
  rw [rxStep_rxCount_toNat]
  split <;> omega

theorem countStands_apply (s : Mbcore) (a : AgentStep) (h : s.CountStands) : (a.apply s).CountStands := by
  cases a with
  | seq r => exact countStands_seqStep r h
  | tick => exact countStands_of_le h (tickStep_q s) (tickStep_rxCount s ▸ le_rfl)
  | rx b => exact countStands_of_le h (rxStep_q s b) (rxStep_rxCount_le s b)
  | reset => exact (validationHolds_resetState s).count

theorem frameHead_take_succ (s : Mbcore) {i : BufIndex} (h : i.val < 5) :
    s.frameHead.take (i.val + 1) = s.frameHead.take i.val ++ [s.buf i] := by
  have hlen : i.val < s.frameHead.length := h
  have hget : s.frameHead[i.val] = s.buf i := by simp only [Mbcore.frameHead, List.getElem_take, List.getElem_ofFn]
  rw [← List.take_concat_get' _ _ hlen, hget]

/-- The running CRC takes in one byte of the frame (rules R73, R114). -/
theorem crcByte_running {s : Mbcore} {i : BufIndex} (hi : i.val < 5)
    (h : s.crcPair.value = crc16 (s.frameHead.take i.val)) :
    (crcByte s.crcPair (s.buf i)).value = crc16 (s.frameHead.take (i.val + 1)) := by
  rw [frameHead_take_succ s hi, crc16_append, ← h, crcByte_value]
  rfl

/-- States that read the same frame bytes give the CRC the same bytes. -/
theorem frameHead_congr {s t : Mbcore} (h : ∀ i : BufIndex, i.val < 7 → t.buf i = s.buf i) : t.frameHead = s.frameHead := by
  simp only [frameHead_eq, h 0 (by decide), h 1 (by decide), h 2 (by decide), h 3 (by decide), h 4 (by decide)]

/-- A step that keeps Q, the CRC registers and, in a CRC state, the count and the frame bytes keeps the validation. -/
theorem validationHolds_of_keeps {s t : Mbcore} (h : s.ValidationHolds) (hq : t.q = s.q)
    (hc : s.rxCount.toNat ≤ t.rxCount.toNat) (hcrc : t.crcPair = s.crcPair)
    (hbuf : ∀ k, s.q.crcDone = some k → ∀ i : BufIndex, i.val < 7 → t.buf i = s.buf i) : t.ValidationHolds where
  count := countStands_of_le h.count hq hc
  header k hk := by
    have keep := hbuf k (hq ▸ hk)
    rw [keep 0 (by decide), keep 1 (by decide), keep 2 (by decide)]
    exact h.header k (hq ▸ hk)
  running k hk := by
    rw [hcrc, frameHead_congr (hbuf k (hq ▸ hk))]
    exact h.running k (hq ▸ hk)

theorem validationHolds_seqStep (r : Bool) {s : Mbcore} (h : s.ValidationHolds) : (seqStep r s).ValidationHolds where
  count := countStands_seqStep r h.count
  header k hk := by
    obtain ⟨_, hpass, x, e⟩ | ⟨i, x, hi, _, _, e⟩ := seqStep_crcDone_cases hk <;> rw [e]
    · exact ((gateVerdict_none s).mp hpass).2
    · exact h.header _ hi
  running k hk := by
    obtain ⟨rfl, _, x, e⟩ | ⟨i, x, hi, hlt, rfl, e⟩ := seqStep_crcDone_cases hk <;> rw [e]
    · rfl
    · exact crcByte_running hlt (h.running _ hi)

theorem validationHolds_tickStep {s : Mbcore} (h : s.ValidationHolds) : s.tickStep.ValidationHolds :=
  validationHolds_of_keeps h (tickStep_q s) (tickStep_rxCount s ▸ le_rfl) (by simp [Mbcore.crcPair])
    fun _ _ i _ => Mbcore.buf_congr (tickStep_rxbuf s) i

/-- A byte that arrives during a validation is stored past the frame (rule R116). -/
theorem validationHolds_rxStep (b : Byte) {s : Mbcore} (h : s.ValidationHolds) : (s.rxStep b).ValidationHolds := by
  refine validationHolds_of_keeps h (rxStep_q s b) (rxStep_rxCount_le s b) (by simp [Mbcore.crcPair]) fun k hk i hi => ?_
  have hcount := h.count k hk
  rw [rxStep_buf, if_neg (by omega)]

theorem validationHolds_apply (s : Mbcore) (a : AgentStep) (h : s.ValidationHolds) : (a.apply s).ValidationHolds := by
  cases a with
  | seq r => exact validationHolds_seqStep r h
  | tick => exact validationHolds_tickStep h
  | rx b => exact validationHolds_rxStep b h
  | reset => exact validationHolds_resetState s

/-- Settles O49: every atomic step keeps the validation in progress. -/
theorem stepKeepsTheValidation : Obligations.StepKeepsTheValidation := fun _ _ h hs =>
  step_keeps validationHolds_apply h hs

/-- In CMP the comparison decides whether the frame is VALID: the registers hold CRC16 of its head (rules R115, R119). -/
theorem crcMatches_iff_validFrame {s : Mbcore} (h : s.ValidationHolds) (hq : s.q = .cmp) :
    s.crcMatches = true ↔ s.validFrame := by
  have hdone : s.q.crcDone = some 5 := congrArg SeqState.crcDone hq
  have hrun : s.crcPair.value = crc16 s.frameHead := h.running 5 hdone
  obtain ⟨h0, h1, h2⟩ := h.header 5 hdone
  simp only [Mbcore.crcMatches, beq_iff_eq, hrun, Mbcore.validFrame, h.count 5 hdone, h0, h1, h2, true_and]

/-- A cycle that raises the pulse is a match in CMP (rules R19, R118). -/
theorem cycle_raises_presUpd {s : Mbcore} {w : InputWord} (hlow : s.presUpd = false) (hup : (cycle s w).presUpd = true) :
    inputRst w = false ∧ s.q = .cmp ∧ s.crcMatches = true := by
  cases hr : inputRst w with
  | true => simp [cycle, hr] at hup
  | false =>
    obtain ⟨_, _, _, hu, _, _⟩ := cycle_seq_registers s hr
    rw [hu, seqStep_presUpd, hlow] at hup
    refine ⟨rfl, ?_⟩
    by_contra hm
    simp [hm] at hup

/-- PRESSURE after a cycle without reset (rules R118, R138). -/
theorem cycle_pressure {s : Mbcore} {w : InputWord} (hrst : inputRst w = false) :
    (cycle s w).pressure = if s.q = .cmp ∧ s.crcMatches = true then s.framePressure else s.pressure := by
  obtain ⟨_, _, hp, _, _, _⟩ := cycle_seq_registers s hrst
  rw [hp, seqStep_pressure]

/-- Settles O43: the pulse rises on a match in CMP alone, and there the match says that the frame is VALID. -/
theorem noDisplayUpdateWithoutValidFrame : Obligations.NoDisplayUpdateWithoutValidFrame := by
  intro s w h hlow hup
  obtain ⟨hrst, hq, hmatch⟩ := cycle_raises_presUpd hlow hup
  exact ⟨hq, (crcMatches_iff_validFrame h hq).mp hmatch, by rw [cycle_pressure hrst, if_pos ⟨hq, hmatch⟩]⟩

/-! ## From GATE to the end of the validation (rules R112, R119, R123) -/

/-- One CRC step of SEQ takes in one more byte (rule R114). -/
theorem seqStep_crcDone {s : Mbcore} {k : Nat} (r : Bool) (hk : s.q.crcDone = some k) (hlt : k < 5) :
    (seqStep r s).q.crcDone = some (k + 1) := by
  cases hq : s.q <;> rw [hq] at hk
  case crc0 | crc1 | crc2 | crc3 | crc4 =>
    cases hk
    simp [seqStep, hq, microCrc0, microCrc1, microCrc2, microCrc3, microCrc4, crcStep, SeqState.crcDone]
  case cmp => cases hk; omega
  all_goals simp [SeqState.crcDone] at hk

theorem SeqState.eq_cmp_of_crcDone {q : SeqState} (h : q.crcDone = some 5) : q = .cmp := by
  cases q <;> simp [SeqState.crcDone] at h ⊢

theorem cycle_crcDone {s : Mbcore} {w : InputWord} {k : Nat} (hrst : inputRst w = false) (hk : s.q.crcDone = some k)
    (hlt : k < 5) : (cycle s w).q.crcDone = some (k + 1) := by
  obtain ⟨_, _, _, _, _, hq⟩ := cycle_seq_registers s hrst
  rw [hq, seqStep_crcDone _ hk hlt]

/-- With a whole frame counted, and Q not about to zero the count, a cycle leaves the frame bytes alone (rule R116). -/
theorem cycle_buf_of_counted {s : Mbcore} (w : InputWord) (hc : 7 ≤ s.rxCount.toNat) (hq : s.q ≠ .txend ∧ s.q ≠ .clr)
    {i : BufIndex} (hi : i.val < 7) : (cycle s w).buf i = s.buf i := by
  obtain ⟨hend, hclr⟩ := hq
  have hcount : (seqStep (inputTxReady w) s).rxCount.toNat = s.rxCount.toNat := by
    rw [seqStep_rxCount_toNat, if_neg (by simp [hend, hclr])]
  rw [cycle_buf, if_neg (by omega)]

/-- From CRCk, 5 - k cycles lead to CMP, with the frame bytes as they were. -/
theorem runWords_to_cmp (ws : List InputWord) (s : Mbcore) (k : Nat) (h : s.CountStands) (hk : s.q.crcDone = some k)
    (hrst : noReset ws) (hlen : k + ws.length = 5) :
    (runWords s ws).q = .cmp ∧ ∀ i : BufIndex, i.val < 7 → (runWords s ws).buf i = s.buf i := by
  induction ws generalizing s k with
  | nil => exact ⟨SeqState.eq_cmp_of_crcDone (hk.trans (congrArg some hlen)), fun _ _ => rfl⟩
  | cons w ws ih =>
    rw [List.length_cons] at hlen
    obtain ⟨hw, hws⟩ := List.forall_mem_cons.mp hrst
    obtain ⟨hcmp, hbuf⟩ := ih (cycle s w) (k + 1) (cycle_keeps countStands_apply s w h)
      (cycle_crcDone hw hk (by omega)) hws (by omega)
    exact ⟨hcmp, fun i hi =>
      (hbuf i hi).trans (cycle_buf_of_counted w (h k hk) (SeqState.ne_of_crcDone_eq_some hk) hi)⟩

/-- How many cycles without reset SEQ needs at least until Q is CMP (rule R132); 9 where it needs that many or more. -/
def SeqState.cyclesToCmp : SeqState → Nat
  | .cmp => 0
  | .crc4 => 1
  | .crc3 => 2
  | .crc2 => 3
  | .crc1 => 4
  | .crc0 => 5
  | .gate => 6
  | .wait => 7
  | .idle => 8
  | .clr | .txend | .tx0 | .tx1 | .tx2 | .tx3 | .tx4 | .tx5 | .tx6 | .tx7 => 9

theorem SeqState.cyclesToCmp_le (q : SeqState) : q.cyclesToCmp ≤ 9 := by cases q <;> decide

theorem SeqState.cyclesToCmp_of_sending {q : SeqState} (h : q.txIndex.isSome = true ∨ q = .txend) : q.cyclesToCmp = 9 := by
  cases q <;> simp [SeqState.txIndex] at h <;> rfl

/-- SEQ comes at most one cycle nearer to CMP. -/
theorem seqStep_cyclesToCmp (r : Bool) (s : Mbcore) : s.q.cyclesToCmp ≤ (seqStep r s).q.cyclesToCmp + 1 := by
  have hle := s.q.cyclesToCmp_le
  rcases seqStep_cases r s with
    ⟨hq, _, e⟩ | ⟨hq, _, _, e⟩ | ⟨hq, _, _, e⟩ | ⟨i, hi, _, e⟩ | ⟨i, x, _, _, _, _, hx, e⟩ | ⟨hq, e⟩ | ⟨hq, _, e⟩ |
    ⟨hq, _, e⟩ | ⟨hq, _, e⟩ | ⟨v, hq, _, e⟩ |
    ⟨i, x, ⟨hq, _, rfl⟩ | ⟨hq, _, rfl⟩ | ⟨hq, _, rfl⟩ | ⟨hq, _, rfl⟩ | ⟨hq, _, rfl⟩, e⟩ |
    ⟨hq, _, e⟩ | ⟨hq, _, e⟩ | ⟨hq, e⟩ <;> rw [e]
  case inr.inr.inr.inl => exact Nat.le_succ _
  case inr.inr.inr.inr.inl =>
    rw [Mbcore.setQ_q, SeqState.cyclesToCmp_of_sending hx]
    omega
  all_goals simp [hq, SeqState.cyclesToCmp]

theorem cycle_cyclesToCmp {s : Mbcore} {w : InputWord} (hrst : inputRst w = false) :
    s.q.cyclesToCmp ≤ (cycle s w).q.cyclesToCmp + 1 := by
  obtain ⟨_, _, _, _, _, hq⟩ := cycle_seq_registers s hrst
  exact hq ▸ seqStep_cyclesToCmp _ s

/-- A cycle outside CMP with the pulse low leaves PRESSURE and the pulse (rules R112, R118). -/
theorem cycle_outside_cmp {s : Mbcore} {w : InputWord} (hrst : inputRst w = false) (hq : s.q ≠ .cmp)
    (hlow : s.presUpd = false) : (cycle s w).presUpd = false ∧ (cycle s w).pressure = s.pressure := by
  refine ⟨?_, by rw [cycle_pressure hrst, if_neg fun h => hq h.1]⟩
  by_contra hup
  obtain ⟨_, hcmp, _⟩ := cycle_raises_presUpd hlow (Bool.eq_true_of_not_eq_false hup)
  exact hq hcmp

/-- A run that is too short to perform CMP leaves PRESSURE and the low pulse. -/
theorem runWords_before_cmp (ws : List InputWord) (s : Mbcore) (hlow : s.presUpd = false) (hrst : noReset ws)
    (hlen : ws.length ≤ s.q.cyclesToCmp) :
    (runWords s ws).presUpd = false ∧ (runWords s ws).pressure = s.pressure := by
  induction ws generalizing s with
  | nil => exact ⟨hlow, rfl⟩
  | cons w ws ih =>
    rw [List.length_cons] at hlen
    obtain ⟨hw, hws⟩ := List.forall_mem_cons.mp hrst
    have hq : s.q ≠ .cmp := fun h => by simp [h, SeqState.cyclesToCmp] at hlen
    obtain ⟨hlow', hpres⟩ := cycle_outside_cmp hw hq hlow
    have hstep := cycle_cyclesToCmp (s := s) hw
    obtain ⟨hrunLow, hrunPres⟩ := ih (cycle s w) hlow' hws (by omega)
    exact ⟨hrunLow, hrunPres.trans hpres⟩

/-- Where GATE leads, by its label (rule R111). -/
theorem cycle_q_of_gate {s : Mbcore} {w : InputWord} (hrst : inputRst w = false) (hq : s.q = .gate) :
    (cycle s w).q = if s.gateVerdict = none then .crc0 else .clr := by
  obtain ⟨_, _, _, _, _, hseq⟩ := cycle_seq_registers s hrst
  obtain ⟨v, hv, e⟩ | ⟨hv, e⟩ := microGate_cases s <;> simp [hseq, seqStep, hq, hv, e]

/-- The last cycle of a validation, with the pulse low until then (rule R118). -/
theorem cycle_of_cmp {s : Mbcore} {w : InputWord} (hrst : inputRst w = false) (hq : s.q = .cmp) (hlow : s.presUpd = false) :
    (cycle s w).q = .clr ∧ (cycle s w).presUpd = s.crcMatches ∧
    (cycle s w).pressure = if s.crcMatches then s.framePressure else s.pressure := by
  obtain ⟨_, _, _, hu, _, hseq⟩ := cycle_seq_registers s hrst
  refine ⟨hseq.trans (seqStep_q_of_cmp _ hq), ?_, by simp [cycle_pressure hrst, hq]⟩
  rw [hu, seqStep_presUpd]
  cases hc : s.crcMatches <;> simp [hq, hlow]

/-- Counted frames with the same seven bytes are VALID together and hold the same value (rules R49, R119). -/
theorem validFrame_congr {s t : Mbcore} (hs : 7 ≤ s.rxCount.toNat) (ht : 7 ≤ t.rxCount.toNat)
    (h : ∀ i : BufIndex, i.val < 7 → t.buf i = s.buf i) :
    (t.validFrame ↔ s.validFrame) ∧ t.framePressure = s.framePressure := by
  have hsum : t.frameChecksum = s.frameChecksum := by
    rw [Mbcore.frameChecksum, Mbcore.frameChecksum, h 5 (by decide), h 6 (by decide)]
  refine ⟨?_, by rw [Mbcore.framePressure, Mbcore.framePressure, h 3 (by decide), h 4 (by decide)]⟩
  simp only [Mbcore.validFrame, frameHead_congr h, hsum, h 0 (by decide), h 1 (by decide), h 2 (by decide), hs, ht]

/-- Where GATE passes, six cycles lead to CMP with the validation in progress, the pulse and PRESSURE as they were, and the
frame that was checked still in the buffer. -/
theorem runWords_of_gate_pass {s : Mbcore} {ws : List InputWord} (hq : s.q = .gate) (hlow : s.presUpd = false)
    (hpass : s.gateVerdict = none) (hrst : noReset ws) (hlen : ws.length = 6) :
    (runWords s ws).q = .cmp ∧ (runWords s ws).ValidationHolds ∧ (runWords s ws).presUpd = false ∧
    (runWords s ws).pressure = s.pressure ∧ ∀ i : BufIndex, i.val < 7 → (runWords s ws).buf i = s.buf i := by
  have hvalid : s.ValidationHolds := by constructor <;> simp [hq, SeqState.crcDone]
  obtain ⟨hrunLow, hrunPres⟩ := runWords_before_cmp ws s hlow hrst (by rw [hlen, hq]; rfl)
  have hrunValid := runWords_induct (cycle_keeps validationHolds_apply) s ws hvalid
  obtain ⟨w, ws, rfl⟩ := List.exists_cons_of_length_eq_add_one hlen
  obtain ⟨hw, hws⟩ := List.forall_mem_cons.mp hrst
  have hcrc0 : (cycle s w).q = .crc0 := by rw [cycle_q_of_gate hw hq, if_pos hpass]
  have hcount := cycle_keeps countStands_apply s w hvalid.count
  obtain ⟨hcmp, hbuf⟩ := runWords_to_cmp ws (cycle s w) 0 hcount (by rw [hcrc0]; rfl) hws (by simpa using hlen)
  refine ⟨hcmp, hrunValid, hrunLow, hrunPres, fun i hi => (hbuf i hi).trans ?_⟩
  exact cycle_buf_of_counted w ((gateVerdict_none s).mp hpass).1 (by simp [hq]) hi

/-- Where GATE does not pass, seven cycles are too few for another frame to reach CMP. -/
theorem runWords_of_gate_fail {s : Mbcore} {ws : List InputWord} (hq : s.q = .gate) (hlow : s.presUpd = false)
    (hfail : s.gateVerdict ≠ none) (hrst : noReset ws) (hlen : ws.length = 7) :
    (runWords s ws).presUpd = false ∧ (runWords s ws).pressure = s.pressure := by
  obtain ⟨w, ws, rfl⟩ := List.exists_cons_of_length_eq_add_one hlen
  obtain ⟨hw, hws⟩ := List.forall_mem_cons.mp hrst
  have hclr : (cycle s w).q = .clr := by rw [cycle_q_of_gate hw hq, if_neg hfail]
  obtain ⟨hlow', hpres⟩ := cycle_outside_cmp hw (by simp [hq]) hlow
  obtain ⟨hrunLow, hrunPres⟩ := runWords_before_cmp ws (cycle s w) hlow' hws (by
    rw [hclr, SeqState.cyclesToCmp]
    simp only [List.length_cons] at hlen
    omega)
  exact ⟨hrunLow, hrunPres.trans hpres⟩

/-- Settles O40: where GATE passes the seventh cycle is CMP, which finds the frame VALID or not; where it does not pass the
frame is not VALID. -/
theorem validFramesAndOnlyTheyDecode : Obligations.ValidFramesAndOnlyTheyDecode := by
  intro s ws hq hlow hrst hlen
  by_cases hpass : s.gateVerdict = none
  · obtain ⟨us, w, rfl⟩ := (List.eq_nil_or_concat' ws).resolve_left (by rintro rfl; simp at hlen)
    obtain ⟨hus, hw⟩ := List.forall_mem_append.mp hrst
    obtain ⟨hcmp, hvalid, hrunLow, hrunPres, hbuf⟩ := runWords_of_gate_pass hq hlow hpass hus (by simpa using hlen)
    obtain ⟨hclr, hpulse, hpres⟩ := cycle_of_cmp (hw w (by simp)) hcmp hrunLow
    obtain ⟨hsame, hvalue⟩ := validFrame_congr ((gateVerdict_none s).mp hpass).1
      (hvalid.count 5 (congrArg SeqState.crcDone hcmp)) hbuf
    have hmatch := (crcMatches_iff_validFrame hvalid hcmp).trans hsame
    rw [runWords_append]
    refine ⟨fun hframe => ?_, fun hframe => ?_⟩
    · have hm := hmatch.mpr hframe
      rw [hm] at hpulse hpres
      exact ⟨hclr, hpulse, hpres.trans hvalue⟩
    · have hm : (runWords s us).crcMatches = false := Bool.eq_false_iff.mpr (mt hmatch.mp hframe)
      rw [hm] at hpulse hpres
      exact ⟨hpulse, hpres.trans hrunPres⟩
  · refine ⟨fun ⟨hc, h0, h1, h2, _⟩ => ?_, fun _ => runWords_of_gate_fail hq hlow hpass hrst hlen⟩
    exact absurd ((gateVerdict_none s).mpr ⟨hc, h0, h1, h2⟩) hpass

/-! ## Two states that differ in stale bytes (rules R125, R168) -/

/-- A cycle is the run of its atomic steps (rules R130, R140). -/
theorem cycle_eq_runAgents (s : Mbcore) (w : InputWord) : cycle s w = runAgents s (cycleAgents w) := by
  rcases cycle_cases s w with ⟨hr, e⟩ | ⟨hr, ht, hx, e⟩ | ⟨hr, ht, hx, e⟩ | ⟨hr, ht, hx, e⟩ | ⟨hr, ht, hx, e⟩ <;> rw [e]
  · simp [cycleAgents, runAgents, hr]
  all_goals simp [cycleAgents, runAgents, hr, ht, hx]

theorem runWords_eq_runAgents (ws : List InputWord) (s : Mbcore) :
    runWords s ws = runAgents s (ws.flatMap cycleAgents) := by
  induction ws generalizing s with
  | nil => rfl
  | cons w ws ih => rw [List.flatMap_cons, runAgents_append, ← cycle_eq_runAgents, ← ih, runWords]

/-- What every atomic step keeps between two states, every run of words keeps: the induction for relations. -/
theorem runWords_keeps_relation {R : Mbcore → Mbcore → Prop}
    (keep : ∀ (s t : Mbcore) (a : AgentStep), R s t → R (a.apply s) (a.apply t)) (ws : List InputWord) {s t : Mbcore}
    (h : R s t) : R (runWords s ws) (runWords t ws) := by
  rw [runWords_eq_runAgents, runWords_eq_runAgents]
  induction ws.flatMap cycleAgents generalizing s t with
  | nil => exact h
  | cons a l ih => exact ih (keep s t a h)

/-- States that differ in stale bytes alone are one state with two buffers. -/
theorem agreeOnFresh_iff (s t : Mbcore) :
    s.AgreeOnFresh t ↔ ∃ m, t = s.setRxbuf m ∧ ∀ i : BufIndex, i.val < s.rxCount.toNat → s.buf i = m.read i := by
  constructor
  · rintro ⟨hreg, hfresh⟩
    exact ⟨t.rxbuf, hreg, hfresh⟩
  · rintro ⟨m, rfl, hfresh⟩
    exact ⟨rfl, hfresh⟩

/-- The label of GATE depends on the buffer through the header of a counted frame (rule R111). -/
theorem gateVerdict_setRxbuf {s : Mbcore} {m : Memory}
    (h : ∀ i : BufIndex, i.val < s.rxCount.toNat → s.buf i = m.read i) :
    (s.setRxbuf m).gateVerdict = s.gateVerdict := by
  by_cases hc : s.rxCount.toNat < 7
  · simp [Mbcore.gateVerdict, Config.decodeMinCount, hc]
  · have hbuf (i : BufIndex) (hi : i.val < 7) : (s.setRxbuf m).buf i = s.buf i := (h i (by omega)).symm
    simp only [Mbcore.gateVerdict, Mbcore.setRxbuf_rxCount, hbuf 0 (by decide), hbuf 1 (by decide), hbuf 2 (by decide)]

/-- SEQ makes the same of a state with another buffer that agrees on the counted bytes: GATE reads the header only where a
frame is counted, and in the CRC states and CMP one is (rule R116). -/
theorem seqStep_setRxbuf (r : Bool) {s : Mbcore} {m : Memory} (hstands : s.CountStands)
    (h : ∀ i : BufIndex, i.val < s.rxCount.toNat → s.buf i = m.read i) :
    seqStep r (s.setRxbuf m) = (seqStep r s).setRxbuf m := by
  have frame {k : Nat} (hk : s.q.crcDone = some k) (i : BufIndex) (hi : i.val < 7) : (s.setRxbuf m).buf i = s.buf i :=
    (h i (hi.trans_le (hstands k hk))).symm
  have crc {k : Nat} (hk : s.q.crcDone = some k) (i : BufIndex) (hi : i.val < 7) (x : SeqState) :
      crcStep i x (s.setRxbuf m) = (crcStep i x s).setRxbuf m := by
    rw [crcStep, frame hk i hi]
    rfl
  have hq' : (s.setRxbuf m).q = s.q := rfl
  cases hq : s.q <;> simp only [seqStep, hq', hq]
  case idle => cases hp : s.pollFlag <;> cases hd : s.dataAvail <;> simp [microIdle, hp, hd] <;> rfl
  case tx0 | tx1 | tx2 | tx3 | tx4 | tx5 | tx6 | tx7 =>
    simp only [microTx0, microTx1, microTx2, microTx3, microTx4, microTx5, microTx6, microTx7, presentByte_eq]
    rfl
  case txend | clr => rfl
  case wait =>
    have hover : (s.setRxbuf m).waitOver = s.waitOver := rfl
    cases hw : s.waitOver <;> simp [microWait, hover, hw] <;> rfl
  case gate =>
    rw [microGate, microGate, gateVerdict_setRxbuf h]
    cases s.gateVerdict <;> rfl
  case crc0 => exact crc (congrArg _ hq) 0 (by decide) _
  case crc1 => exact crc (congrArg _ hq) 1 (by decide) _
  case crc2 => exact crc (congrArg _ hq) 2 (by decide) _
  case crc3 => exact crc (congrArg _ hq) 3 (by decide) _
  case crc4 => exact crc (congrArg _ hq) 4 (by decide) _
  case cmp =>
    have hframe := frame (congrArg _ hq)
    have hmatch : (s.setRxbuf m).crcMatches = s.crcMatches := by
      rw [Mbcore.crcMatches, Mbcore.frameChecksum, hframe 5 (by decide), hframe 6 (by decide)]
      rfl
    have hpres : (s.setRxbuf m).framePressure = s.framePressure := by
      rw [Mbcore.framePressure, hframe 3 (by decide), hframe 4 (by decide)]
      rfl
    rw [microCmp, microCmp, hmatch, hpres]
    cases s.crcMatches <;> rfl

theorem agreeOnFresh_seqStep (r : Bool) {s t : Mbcore} (hstands : s.CountStands) (h : s.AgreeOnFresh t) :
    (seqStep r s).AgreeOnFresh (seqStep r t) := by
  obtain ⟨m, rfl, hfresh⟩ := (agreeOnFresh_iff s t).mp h
  refine (agreeOnFresh_iff _ _).mpr ⟨m, seqStep_setRxbuf r hstands hfresh, fun i hi => ?_⟩
  rw [Mbcore.buf_congr (seqStep_rxbuf r s)]
  rw [seqStep_rxCount_toNat] at hi
  exact hfresh i (by split at hi <;> omega)

theorem agreeOnFresh_tickStep {s t : Mbcore} (h : s.AgreeOnFresh t) : s.tickStep.AgreeOnFresh t.tickStep := by
  obtain ⟨m, rfl, hfresh⟩ := (agreeOnFresh_iff s t).mp h
  refine (agreeOnFresh_iff _ _).mpr ⟨m, ?_, fun i hi => ?_⟩
  · rw [tickStep_eq, tickStep_eq]
    rfl
  · rw [Mbcore.buf_congr (tickStep_rxbuf s)]
    exact hfresh i (by simpa using hi)

/-- The byte-arrival step stores the same byte at the same index in both states. -/
theorem agreeOnFresh_rxStep (b : Byte) {s t : Mbcore} (h : s.AgreeOnFresh t) : (s.rxStep b).AgreeOnFresh (t.rxStep b) := by
  obtain ⟨m, rfl, hfresh⟩ := (agreeOnFresh_iff s t).mp h
  constructor
  · by_cases hroom : s.rxCount.toNat < Config.rxbufLen
    · rw [rxStep_room s b hroom, rxStep_room (s.setRxbuf m) b hroom]
      rfl
    · rw [rxStep_full s b hroom, rxStep_full (s.setRxbuf m) b hroom]
      rfl
  · intro i hi
    rw [rxStep_buf, rxStep_buf, Mbcore.setRxbuf_rxCount]
    split_ifs with hlast
    · rfl
    · have hlt : i.val < s.rxCount.toNat := by
        rw [rxStep_rxCount_toNat] at hi
        split at hi <;> omega
      exact hfresh i hlt

theorem agreeOnFresh_resetState {s t : Mbcore} (h : s.AgreeOnFresh t) : s.resetState.AgreeOnFresh t.resetState := by
  obtain ⟨m, rfl, _⟩ := (agreeOnFresh_iff s t).mp h
  exact ⟨rfl, fun i hi => by simp at hi⟩

/-- The relation that every atomic step keeps: agreement on the counted bytes, where the count of a validation stands. -/
theorem agreeOnFresh_apply (s t : Mbcore) (a : AgentStep) (h : s.CountStands ∧ s.AgreeOnFresh t) :
    (a.apply s).CountStands ∧ (a.apply s).AgreeOnFresh (a.apply t) := by
  obtain ⟨hstands, hagree⟩ := h
  refine ⟨countStands_apply s a hstands, ?_⟩
  cases a with
  | seq r => exact agreeOnFresh_seqStep r hstands hagree
  | tick => exact agreeOnFresh_tickStep hagree
  | rx b => exact agreeOnFresh_rxStep b hagree
  | reset => exact agreeOnFresh_resetState hagree

/-- No output reads the buffer (rule R25). -/
theorem outputs_eq_of_agreeOnFresh {s t : Mbcore} (h : s.AgreeOnFresh t) : s.outputs = t.outputs := by
  rw [h.registers]
  rfl

/-- The words a step runs are the environment's: the same for every state of MBCORE. -/
theorem exec_fetch_of_environment (e : Environment) :
    ∃ ws : List InputWord, ∀ s : State, s.toEnvironment = e →
      exec s.fetch s = .next (s.onCore fun m => runWords m ws) := by
  cases he : e.stimuli with
  | nil =>
    refine ⟨[Config.envInput e.envCycle], ?_⟩
    rintro s rfl
    rw [Environment.fetch_nil he]
    exact exec_decodeInput s _
  | cons x rest =>
    obtain ⟨ws, hws⟩ := exec_stimulus_instr x
    refine ⟨ws, ?_⟩
    rintro s rfl
    rw [Environment.fetch_cons he]
    exact hws s

theorem consume_toEnvironment_congr {s t : State} (h : s.toEnvironment = t.toEnvironment) :
    s.consume.toEnvironment = t.consume.toEnvironment := by
  rw [consume_eq, consume_eq, h]

/-- Settles O51: in one environment both states run the same words, and every atomic step keeps the agreement. -/
theorem staleBytesNeverMatter : Obligations.StaleBytesNeverMatter := by
  intro s t hstands henv hagree
  obtain ⟨ws, hws⟩ := exec_fetch_of_environment s.toEnvironment
  have run {u : State} (hu : u.toEnvironment = s.toEnvironment) :
      step u = .next (u.onCore fun m => runWords m ws).consume := by rw [step, hws u hu]
  obtain ⟨_, hagree'⟩ := runWords_keeps_relation agreeOnFresh_apply ws ⟨hstands, hagree⟩
  refine ⟨_, _, run rfl, run henv.symm, consume_toEnvironment_congr henv, ?_, ?_⟩ <;>
    rw [consume_toMbcore, consume_toMbcore]
  · exact hagree'
  · exact outputs_eq_of_agreeOnFresh hagree'

end Sys2Proof.Machine

/-! Proofs about the clock cycle and its five operations (44_cycle_ops.md): runs of steps as runs of cycles, what the later
agent of a cycle decides, the transitions of Q, and the looser model. -/

namespace Sys2Proof.Machine

/-! ## Operations, steps and runs (rules R130, R131, R133) -/

/-- Settles O9: the decoder reads the flags that CYCLE branches on. -/
theorem cycleIsTheSelectedOperation : Obligations.CycleIsTheSelectedOperation := exec_decodeInput

/-- A run begins with a step that answers next. -/
theorem core_run_succ {s t : State} (h : step s = .next t) (k : Nat) : core.run (k + 1) s = core.run k t := by
  simp only [Host.Core.run, core, h]

/-- Settles O8, by induction over the words: the first step runs the cycle of the first word and uses the word up. -/
theorem runOfStepsIsRunOfCycles : Obligations.RunOfStepsIsRunOfCycles := by
  intro ws
  induction ws with
  | nil =>
    rintro s _ rfl
    rfl
  | cons w ws ih =>
    intro s rest hs
    have hstep : step s = .next { s with toMbcore := cycle s.toMbcore w, stimuli := ws.map .word ++ rest } :=
      step_of_stimulus hs (exec_decodeInput s w)
    rw [List.length_cons, core_run_succ hstep]
    exact ih _ rest rfl

/-- SEQ performs the row that Q selects (rule R131). -/
theorem instrMove_instr (r : Bool) (m : Mbcore) : instrMove m.q.instr r m = seqStep r m := by
  unfold seqStep
  cases m.q <;> rfl

/-- Settles O13: both instructions make SEQ's move, with the same tx_ready or where SEQ does not read it. -/
theorem nopPerformsTheSelectedMicroOperation : Obligations.NopPerformsTheSelectedMicroOperation := by
  intro s
  have selected : exec s.q.instr s = .next { s with toMbcore := seqStep s.txReady s.toMbcore } := by
    rw [exec_eq_onCore, State.onCore, instrMove_instr]
  have nop (r : Bool) : exec (.nop r) s = .next { s with toMbcore := seqStep r s.toMbcore } := rfl
  refine ⟨⟨_, nop _, selected⟩, fun hq r => ⟨_, nop r, ?_⟩⟩
  rw [selected, seqStep_txReady_irrelevant hq]

/-! ## Quiescence and reset (rules R137, R141) -/

theorem step_total (s : State) : ∃ t, step s = .next t := by
  obtain ⟨t, ht⟩ := exec_next s.fetch s
  exact ⟨t.consume, by rw [step, ht]⟩

/-- In a quiescent state SEQ changes nothing. -/
theorem seqStep_of_quiescent {s : Mbcore} (r : Bool) (h : s.quiescent) : seqStep r s = s := by
  obtain ⟨hq, hp, hd⟩ := h
  rw [seqStep_of_idle r hq hp, hd, ← hq]
  rfl

/-- A cycle without reset, tick and byte is SEQ alone (rule R133). -/
theorem cycle_of_no_event {s : Mbcore} {w : InputWord} (hrst : inputRst w = false) (htick : inputTick w = false)
    (hbyte : inputRxValid w = false) : cycle s w = seqStep (inputTxReady w) s := by
  simp [cycle, hrst, htick, hbyte]

/-- Settles O10: a quiescent state is changed by no cycle that is SEQ alone. -/
theorem neverHaltsAndQuiescentStatesStay : Obligations.NeverHaltsAndQuiescentStatesStay := by
  refine ⟨step_total, fun s r hquiet => ?_, fun s w hquiet hrst hne => ?_⟩
  · have nop : exec (.nop r) s = .next { s with toMbcore := seqStep r s.toMbcore } := rfl
    rw [nop, seqStep_of_quiescent r hquiet]
  · by_contra hevent
    simp only [not_or, Bool.not_eq_true] at hevent
    obtain ⟨htick, hbyte⟩ := hevent
    exact hne (by rw [cycle_of_no_event hrst htick hbyte, seqStep_of_quiescent _ hquiet])

theorem cycle_of_reset {s : Mbcore} {w : InputWord} (h : inputRst w = true) : cycle s w = s.resetState := by
  simp [cycle, h]

/-- Reset cycles one after the other are one (rule R165). -/
theorem runWords_of_resets (ws : List InputWord) (w : InputWord) (s : Mbcore) (h : ∀ v ∈ w :: ws, inputRst v = true) :
    runWords s (w :: ws) = s.resetState := by
  induction ws generalizing w s with
  | nil => exact cycle_of_reset (h w (by simp))
  | cons v ws ih =>
    obtain ⟨hw, hws⟩ := List.forall_mem_cons.mp h
    have hrest : runWords (cycle s w) (v :: ws) = (cycle s w).resetState := ih v (cycle s w) hws
    rw [runWords, hrest, cycle_of_reset hw]
    rfl

/-- Settles O11: RST is RESET_STATE, and so is each cycle whose word resets. -/
theorem resetOperation : Obligations.ResetOperation := by
  have rst (s : State) : exec .rst s = .next { s with toMbcore := s.toMbcore.resetState } := rfl
  refine ⟨fun s => rfl, fun s w hw => ⟨?_, ?_⟩, fun s w ws hws => ?_⟩
  · rw [rst, cycle_of_reset hw]
  · have hrst : inputRst w = true := hw
    simp [Mbcore.transfer, hrst]
  · rw [rst, runWords_of_resets ws w s.toMbcore hws]

/-! ## The tick and the byte (rules R134, R135, R136) -/

/-- TICK with its two counters as numbers (rules R81, R97). -/
theorem tickStep_eq_ofNat (s : Mbcore) :
    s.tickStep = { s with
      ptc := if 100 < s.ptc.toNat + 1 then 0#Config.wPtc else BitVec.ofNat Config.wPtc (s.ptc.toNat + 1)
      pollFlag := decide (100 < s.ptc.toNat + 1) || s.pollFlag
      rto := if s.rto.toNat < 100 then BitVec.ofNat Config.wRto (s.rto.toNat + 1) else s.rto } := by
  have fires : s.pollFires = decide (100 < s.ptc.toNat + 1) := rfl
  have runs : s.rtoRuns = decide (s.rto.toNat < 100) := rfl
  simp only [tickStep_eq, fires, runs, decide_eq_true_eq, BitVec.ofNat_add, BitVec.ofNat_toNat, BitVec.setWidth_eq]

/-- Settles O14: TICK is the tick step on the state that NOP answers. -/
theorem tickAppliesAfterTheSequencer : Obligations.TickAppliesAfterTheSequencer := by
  intro s r
  have tick : exec (.tick r) s = .next { s with toMbcore := (seqStep r s.toMbcore).tickStep } := rfl
  refine ⟨{ s with toMbcore := seqStep r s.toMbcore }, rfl, ?_⟩
  rw [tick, tickStep_eq_ofNat]

/-- The byte-arrival step files its byte, whatever the state (rules R96, R102). -/
theorem byteFiled_rxStep (u : State) (d : Byte) : ByteFiled u d (u.onCore fun m => m.rxStep d) where
  registers := by obtain ⟨_, e⟩ | ⟨_, e⟩ := rxStep_cases u.toMbcore d <;> simp [State.onCore, e]
  count := rxStep_rxCount_toNat u.toMbcore d
  bytes := rxStep_buf u.toMbcore d
  stored := rxStep_written u.toMbcore d
  full h := by rw [State.onCore_toMbcore, rxStep_full u.toMbcore d (Nat.not_lt.mpr h)]

/-- Settles O15: RX and TICKRX end in the byte-arrival step. -/
theorem byteIsFiledLast : Obligations.ByteIsFiledLast := fun _ _ d =>
  ⟨⟨_, _, rfl, rfl, byteFiled_rxStep _ d⟩, ⟨_, _, rfl, rfl, byteFiled_rxStep _ d⟩⟩

/-! ## Collisions inside one cycle (rule R138) -/

/-- A cycle with a byte ends in the byte-arrival step, at the count that SEQ left. -/
theorem cycle_of_byte {s : Mbcore} {w : InputWord} (hrst : inputRst w = false) (hbyte : inputRxValid w = true) :
    ∃ m : Mbcore, cycle s w = m.rxStep (inputRxData w) ∧ m.rxCount = (seqStep (inputTxReady w) s).rxCount := by
  cases htick : inputTick w with
  | false => exact ⟨seqStep (inputTxReady w) s, by simp [cycle, hrst, htick, hbyte], rfl⟩
  | true => exact ⟨(seqStep (inputTxReady w) s).tickStep, by simp [cycle, hrst, htick, hbyte], by simp⟩

/-- Any byte of a cycle leaves RTO zero and DATA_AVAIL set. -/
theorem cycle_rto_dataAvail_of_byte {s : Mbcore} {w : InputWord} (hrst : inputRst w = false)
    (hbyte : inputRxValid w = true) : (cycle s w).rto = 0#Config.wRto ∧ (cycle s w).dataAvail = true := by
  obtain ⟨m, e, _⟩ := cycle_of_byte (s := s) hrst hbyte
  simp [e]

/-- A byte that comes as SEQ zeroes the count starts the next frame. -/
theorem cycle_of_byte_of_cleared {s : Mbcore} {w : InputWord} (hq : s.q = .txend ∨ s.q = .clr) (hrst : inputRst w = false)
    (hbyte : inputRxValid w = true) : (cycle s w).rxCount = 1#Config.wCount ∧ (cycle s w).buf 0 = inputRxData w := by
  obtain ⟨m, e, hm⟩ := cycle_of_byte (s := s) hrst hbyte
  have hzero : m.rxCount.toNat = 0 := by rw [hm, seqStep_rxCount_toNat, if_pos hq]
  rw [e]
  refine ⟨BitVec.eq_of_toNat_eq ?_, ?_⟩
  · rw [rxStep_rxCount_of_room _ (by omega), hzero]
    rfl
  · rw [rxStep_buf, hzero]
    rfl

/-- A tick that comes as TXEND zeroes RTO counts from there. -/
theorem cycle_rto_of_txend_tick {s : Mbcore} {w : InputWord} (hq : s.q = .txend) (hrst : inputRst w = false)
    (htick : inputTick w = true) (hbyte : inputRxValid w = false) : (cycle s w).rto = 1#Config.wRto := by
  have hzero : (seqStep (inputTxReady w) s).rto = 0#Config.wRto := by rw [seqStep_rto, if_pos hq]
  have e : cycle s w = (seqStep (inputTxReady w) s).tickStep := by simp [cycle, hrst, htick, hbyte]
  simp [e, tickStep_eq, Mbcore.rtoRuns, Config.rtoCap, hzero]

/-- RX alone writes the buffer. -/
theorem cycle_rxbuf_of_no_byte {s : Mbcore} {w : InputWord} (hrst : inputRst w = false) (hbyte : inputRxValid w = false) :
    (cycle s w).rxbuf = s.rxbuf := by
  cases htick : inputTick w <;> simp [cycle, hrst, htick, hbyte]

/-- TICK alone writes PTC. -/
theorem cycle_ptc_of_no_tick {s : Mbcore} {w : InputWord} (hrst : inputRst w = false) (htick : inputTick w = false) :
    (cycle s w).ptc = s.ptc := by
  cases hbyte : inputRxValid w <;> simp [cycle, hrst, htick, hbyte]

/-- Settles O16, row by row of rule R138's table. -/
theorem collisionsInOneCycle : Obligations.CollisionsInOneCycle := by
  intro s w hrst
  refine ⟨fun hq htick hbyte => cycle_rto_of_txend_tick hq hrst htick hbyte,
    fun _ hbyte => (cycle_rto_dataAvail_of_byte hrst hbyte).1, fun _ hbyte => (cycle_rto_dataAvail_of_byte hrst hbyte).1,
    fun _ htick hptc => cycle_pollFlag_of_tick hrst htick hptc, fun hq hbyte => cycle_of_byte_of_cleared hq hrst hbyte,
    fun _ hbyte => (cycle_rto_dataAvail_of_byte hrst hbyte).2, cycle_rxbuf_of_no_byte hrst, cycle_ptc_of_no_tick hrst,
    ?_⟩
  exact ⟨_, rfl, cycle_seq_registers s.toMbcore hrst⟩

/-! ## The transitions of Q (rule R132) -/

/-- Settles O52: SEQ alone writes Q, and each state has its row of rule R132's table. -/
theorem transitionsOfQ : Obligations.TransitionsOfQ := by
  intro s w hrst
  obtain ⟨_, _, _, _, _, hseq⟩ := cycle_seq_registers s hrst
  cases hq : s.q
  case idle => cases hp : s.pollFlag <;> cases hd : s.dataAvail <;> simp [hseq, seqStep, hq, microIdle, hp, hd]
  case wait => simp only [cycle_q_of_wait hq hrst, waitOver_iff]
  case gate => simp only [cycle_q_of_gate hrst hq, gateVerdict_none]
  case cmp => exact hseq.trans (seqStep_q_of_cmp _ hq)
  case tx0 | tx1 | tx2 | tx3 | tx4 | tx5 | tx6 | tx7 =>
    simp only [hseq, seqStep, hq, microTx0, microTx1, microTx2, microTx3, microTx4, microTx5, microTx6, microTx7,
      presentByte_eq, Mbcore.setQ_q]
  case txend | crc0 | crc1 | crc2 | crc3 | crc4 | clr =>
    rw [hseq, seqStep, hq]
    rfl

/-! ## The looser model (rule R140) -/

/-- The atomic steps of a word that does not reset are steps of the three agents. -/
theorem reset_not_mem_cycleAgents {w : InputWord} (hrst : inputRst w = false) : AgentStep.reset ∉ cycleAgents w := by
  cases htick : inputTick w <;> cases hbyte : inputRxValid w <;> simp [cycleAgents, hrst, htick, hbyte]

/-- Settles O55: a run is the run of its atomic steps, and what those keep every cycle keeps. -/
theorem everyRunIsALooserRun : Obligations.EveryRunIsALooserRun := by
  refine ⟨fun s ws => runWords_eq_runAgents ws s, fun ws hrst hmem => ?_, fun P keep => runWords_induct (cycle_keeps keep)⟩
  obtain ⟨w, hw, hreset⟩ := List.mem_flatMap.mp hmem
  exact reset_not_mem_cycleAgents (hrst w hw) hreset

/-- Settles O56: in TXEND and in CLR SEQ is the one micro-operation, a record update. -/
theorem txendAndClrAreSingleSteps : Obligations.TxendAndClrAreSingleSteps := by
  refine fun s r => ⟨fun hq => ?_, fun hq => ?_, fun w hrst htick hbyte => cycle_of_no_event hrst htick hbyte⟩ <;>
  · rw [apply_seq, seqStep, hq]
    rfl

end Sys2Proof.Machine

/-! Proofs about the two hangs (70_reset_and_hazards.md): a send whose bytes the transport never takes, and a wait without
ticks. In both SEQ changes nothing, so that a cycle is its tick and its byte alone. -/

namespace Sys2Proof.Machine

/-! ## The send without tx_ready (rule R174) -/

/-- SEQ presents the same byte again as long as the transport does not take it (rule R85). -/
theorem seqStep_of_not_ready {s : Mbcore} (hq : s.q.txIndex.isSome = true) : seqStep false s = s := by
  have stay : s.setQ s.q = s := rfl
  cases h : s.q
  case tx0 | tx1 | tx2 | tx3 | tx4 | tx5 | tx6 | tx7 =>
    rw [h] at stay
    rw [seqStep, h]
    exact stay
  all_goals simp [h, SeqState.txIndex] at hq

/-- Where SEQ changes nothing, a cycle without reset leaves Q, DIR and PRESSURE; its tick can set POLL_FLAG and nothing
clears it (rules R81, R138). -/
theorem cycle_of_seqStep_fixed {s : Mbcore} {w : InputWord} (hrst : inputRst w = false)
    (hfix : seqStep (inputTxReady w) s = s) :
    (cycle s w).q = s.q ∧ (cycle s w).dir = s.dir ∧ (cycle s w).pressure = s.pressure ∧
      (s.pollFlag = true → (cycle s w).pollFlag = true) := by
  obtain ⟨_, _, hpres, _, hdir, hq⟩ := cycle_seq_registers s hrst
  refine ⟨by rw [hq, hfix], by rw [hdir, hfix], by rw [hpres, hfix], fun hpoll => ?_⟩
  rcases cycle_cases s w with ⟨hr, _⟩ | ⟨_, _, _, e⟩ | ⟨_, _, _, e⟩ | ⟨_, _, _, e⟩ | ⟨_, _, _, e⟩
  · simp [hrst] at hr
  all_goals simp [e, hfix, tickStep_eq, hpoll]

/-- Settles O22: SEQ presents the same byte in every cycle of the program, by induction over its words. -/
theorem sendHangsWithoutReady : Obligations.SendHangsWithoutReady := by
  intro s ws hq hrst hready
  induction ws generalizing s with
  | nil => exact ⟨rfl, rfl, rfl, id⟩
  | cons w ws ih =>
    obtain ⟨hw, hws⟩ := List.forall_mem_cons.mp hrst
    rw [readyCount_cons, Nat.add_eq_zero_iff, Bool.toNat_eq_zero] at hready
    obtain ⟨hrest, hnone⟩ := hready
    have hfix : seqStep (inputTxReady w) s = s := by rw [hnone, seqStep_of_not_ready hq]
    obtain ⟨hq', hdir, hpres, hpoll⟩ := cycle_of_seqStep_fixed hw hfix
    obtain ⟨hrunQ, hrunDir, hrunPres, hrunPoll⟩ := ih (cycle s w) (hq' ▸ hq) hws hrest
    exact ⟨hrunQ.trans hq', hrunDir.trans hdir, hrunPres.trans hpres, fun hp => hrunPoll (hpoll hp)⟩

/-! ## The wait without ticks (rule R175) -/

/-- A cycle of the wait loop that neither ends it nor brings a tick files its byte, if there is one, and nothing else. -/
theorem cycle_waits_without_tick {s : Mbcore} {w : InputWord} (hq : s.q = .wait) (hrto : s.rto.toNat < 10)
    (hcount : s.rxCount.toNat ≤ 7) (hrst : inputRst w = false) (htick : inputTick w = false) :
    cycle s w = if inputRxValid w then s.rxStep (inputRxData w) else s := by
  simp [cycle, hrst, htick, seqStep_waits _ hq hcount hrto]

/-- Settles O27: no cycle ends the wait, as a byte zeroes RTO and the bytes still to come keep the count at 7 or below. -/
theorem waitHangsWithoutTicks : Obligations.WaitHangsWithoutTicks := by
  intro s ws hq hrto hrst hticks hbytes
  induction ws generalizing s with
  | nil => exact ⟨hq, rfl⟩
  | cons w ws ih =>
    obtain ⟨hw, hws⟩ := List.forall_mem_cons.mp hrst
    rw [tickCount_cons, Nat.add_eq_zero_iff, Bool.toNat_eq_zero] at hticks
    obtain ⟨hrest, htick⟩ := hticks
    rw [byteCountOf_cons] at hbytes
    have hcycle := cycle_waits_without_tick hq hrto (by omega) hw htick
    rw [runWords, hcycle]
    cases hbyte : inputRxValid w with
    | false =>
      rw [hbyte] at hbytes
      exact ih s hq hrto hws hrest hbytes
    | true =>
      rw [hbyte, Bool.toNat_true] at hbytes
      have hfiled := rxStep_rxCount_of_room (s := s) (inputRxData w) (by omega)
      have hrun := ih (s.rxStep (inputRxData w)) (by rw [rxStep_q, hq]) (by simp) hws hrest (by omega)
      rwa [rxStep_pollFlag] at hrun

end Sys2Proof.Machine

/-! Proofs about the table generator (95_test_vectors.md V10): its linearity, from that of the shift register. -/

namespace Sys2Proof.Machine

/-- Settles O30: widening a byte and the eight shift steps are both linear. -/
theorem generatorIsLinear : Obligations.GeneratorIsLinear := fun a b =>
  calc polyShifts 8 ((a ^^^ b).setWidth 16)
    _ = polyShifts 8 (a.setWidth 16 ^^^ b.setWidth 16) := by rw [BitVec.setWidth_xor]
    _ = tgen a ^^^ tgen b := polyShifts_xor 8 _ _

end Sys2Proof.Machine
